-- ==== Sys2Proof/Word.lean ====
section
/-! DEFINITION. The word types of the block: 32-bit host registers (10_state.md §3) and 8-bit frame
bytes (R11, R32). -/

namespace Sys2Proof

/-- A host register or a host write's data: 32 bits (R41). -/
abbrev Word := BitVec 32

/-- A `u8` of R11: one byte of the frame. -/
abbrev Byte := BitVec 8

end Sys2Proof
end

