-- ==== Sys2Proof/Machine/Float.lean ====
section
/-! DEFINITION. The binary32 primitives of R16: exact conversion, division rounded to nearest with ties
to even, negation, and the comparison of R187. Every finite nonnegative binary32 value is a whole number
of units of 2^-149, so a value is handled as that number (log 11). -/

namespace Sys2Proof.Machine

/-- The units of 2^-149 in a finite nonnegative binary32 pattern: `F` for a biased exponent of 0, else
`(2^23 + F) * 2^(E - 1)`. -/
def f32Units (x : Word) : Nat :=
  let e := (x.extractLsb' 23 8).toNat
  let f := (x.extractLsb' 0 23).toNat
  if e = 0 then f else (2 ^ 23 + f) * 2 ^ (e - 1)

/-- The binary32 pattern nearest to the nonnegative fraction `num / den`, ties to even; infinity when it
is too large. `drop` is how many units of 2^-149, as a power of two, the last place of the result has. -/
def f32Round (num den : Nat) : Word :=
  let n := num * 2 ^ 149
  let drop := Nat.log2 (n / den) - 23
  let d := den * 2 ^ drop
  let q := n / d
  let r := n % d
  let up := if d < 2 * r ∨ (2 * r = d ∧ q % 2 = 1) then 1 else 0
  BitVec.ofNat 32 (min (drop * 2 ^ 23 + q + up) 0x7F800000)

/-- `f32(n)` (R16). -/
def f32OfNat (n : Nat) : Word := f32Round n 1

/-- The binary32 pattern of 10.0. -/
def f32Ten : Word := 0x41200000#32

/-- The binary32 pattern of 100.0. -/
def f32Hundred : Word := 0x42C80000#32

/-- `x /f y` for finite nonnegative x and finite positive y (R16). -/
def f32Div (x y : Word) : Word := f32Round (f32Units x) (f32Units y)

/-- `neg(x)`: flips the sign bit (R16). -/
def f32Neg (x : Word) : Word := x ^^^ 0x80000000#32

/-- Whether a pattern is a NaN. -/
def f32IsNaN (x : Word) : Bool := decide (0x7F800000 < x.toNat % 2 ^ 31)

/-- A number that orders the patterns that are no NaN as their values are ordered. -/
def f32Key (x : Word) : Int :=
  if x.getLsbD 31 then -((x.toNat % 2 ^ 31 : Nat) : Int) else ((x.toNat % 2 ^ 31 : Nat) : Int)

/-- `x <= y` as binary32 values (R187); false when either is a NaN. -/
def f32Le (x y : Word) : Bool := !f32IsNaN x && !f32IsNaN y && decide (f32Key x ≤ f32Key y)

end Sys2Proof.Machine
end

