-- ==== Sys2Proof/Syntax.lean ====
section
/-! DEFINITION. The operations of the block, one constructor per row of spec/opcode_table.json
(30_encoding.md R80 to R87). A host request keeps all 32 bits of its WDATA, the ignored ones too, so
that no bit of the request word is lost. RD.RSVD and WR.RSVD have three rows each, so three constructors
each: IDX 9, IDX 10..11 and IDX 12..15. -/

namespace Sys2Proof

/-- The operations of the three formats: host requests (HBUS, R82), pin transactions (PIN, R85) and
controller phases (PHASE, R87). -/
inductive Instr where
  /-- RD.CTRL (R111). -/
  | rdCtrl (wdata : Word)
  /-- WR.CTRL.START (R112): WDATA[0] = 1. -/
  | wrCtrlStart (wdata : Word)
  /-- WR.CTRL.NOP (R113): WDATA[0] = 0. -/
  | wrCtrlNop (wdata : Word)
  /-- RD.CONFIG (R114). -/
  | rdConfig (wdata : Word)
  /-- WR.CONFIG (R115). -/
  | wrConfig (wdata : Word)
  /-- RD.STATUS (R116). -/
  | rdStatus (wdata : Word)
  /-- WR.STATUS (R117). -/
  | wrStatus (wdata : Word)
  /-- RD.FRAME_LO (R118). -/
  | rdFrameLo (wdata : Word)
  /-- WR.FRAME_LO (R124). -/
  | wrFrameLo (wdata : Word)
  /-- RD.FRAME_HI (R119). -/
  | rdFrameHi (wdata : Word)
  /-- WR.FRAME_HI (R125). -/
  | wrFrameHi (wdata : Word)
  /-- RD.CKSUM (R120). -/
  | rdCksum (wdata : Word)
  /-- WR.CKSUM (R126). -/
  | wrCksum (wdata : Word)
  /-- RD.HUMIDITY (R121). -/
  | rdHumidity (wdata : Word)
  /-- WR.HUMIDITY (R127). -/
  | wrHumidity (wdata : Word)
  /-- RD.TEMPERATURE (R122). -/
  | rdTemperature (wdata : Word)
  /-- WR.TEMPERATURE (R128). -/
  | wrTemperature (wdata : Word)
  /-- RD.PINERR (R123). -/
  | rdPinerr (wdata : Word)
  /-- WR.PINERR (R129). -/
  | wrPinerr (wdata : Word)
  /-- RD.RSVD (R130), the row IDX = 9. -/
  | rdRsvd9 (wdata : Word)
  /-- RD.RSVD (R130), the row IDX = 10..11. -/
  | rdRsvd10 (idx : BitVec 4) (wdata : Word)
  /-- RD.RSVD (R130), the row IDX = 12..15. -/
  | rdRsvd12 (idx : BitVec 4) (wdata : Word)
  /-- WR.RSVD (R131), the row IDX = 9. -/
  | wrRsvd9 (wdata : Word)
  /-- WR.RSVD (R131), the row IDX = 10..11. -/
  | wrRsvd10 (idx : BitVec 4) (wdata : Word)
  /-- WR.RSVD (R131), the row IDX = 12..15. -/
  | wrRsvd12 (idx : BitVec 4) (wdata : Word)
  /-- PIN.SET_LOW (R85, R86). -/
  | pinSetLow
  /-- PIN.SET_HIGH (R85, R86). -/
  | pinSetHigh
  /-- PIN.IS_HIGH (R85, R86). -/
  | pinIsHigh
  /-- PIN.IS_LOW (R85, R86). -/
  | pinIsLow
  /-- PHASE.IDLE (R150). -/
  | phaseIdle
  /-- PHASE.WAKE_LOW (R143). -/
  | phaseWakeLow
  /-- PHASE.WAKE_HOLD (R144). -/
  | phaseWakeHold
  /-- PHASE.WAKE_RELEASE (R145). -/
  | phaseWakeRelease
  /-- PHASE.WAKE_SETTLE (R146). -/
  | phaseWakeSettle
  /-- PHASE.PRES_HIGH (R147). -/
  | phasePresHigh
  /-- PHASE.PRES_LOW (R148). -/
  | phasePresLow
  /-- PHASE.BIT_RISE (R161). -/
  | phaseBitRise
  /-- PHASE.BIT_HIGH (R162). -/
  | phaseBitHigh
  /-- PHASE.CHECK (R180). -/
  | phaseCheck
  /-- PHASE.DECODE (R187). -/
  | phaseDecode
  /-- PHASE.COMPLETE (R150). -/
  | phaseComplete
deriving DecidableEq, Repr

/-- A word of one of the three fixed-width formats (R80). The formats have no bits that tell them apart:
each has a port of its own. -/
inductive PortWord where
  /-- One host request, 37 bits (R81). -/
  | hbus (w : BitVec 37)
  /-- The op code of one pin transaction, 3 bits (R85). -/
  | pin (w : BitVec 3)
  /-- The code of one controller phase, 4 bits (R87). -/
  | phase (w : BitVec 4)
deriving DecidableEq, Repr

/-- The three formats of R80. -/
inductive Format where
  | hbus
  | pin
  | phase
deriving DecidableEq, Repr

end Sys2Proof
end

