-- ==== Sys2Proof/WellFormed.lean ====
section
/-! DEFINITION. Which terms of `Instr` stand for a word: the bits that spec/opcode_table.json fixes
inside an operand have their fixed value (30_encoding.md R81, R82). -/

namespace Sys2Proof

/-- An instruction is well-formed when every operand bit that its row fixes has the row's value:
WDATA[0] of the two CTRL writes, and IDX of the reserved rows. -/
def Instr.wf : Instr → Bool
  | .wrCtrlStart d => d.getLsbD 0
  | .wrCtrlNop d => !d.getLsbD 0
  | .rdRsvd10 idx _ => idx == 10#4 || idx == 11#4
  | .rdRsvd12 idx _ => decide (12#4 ≤ idx)
  | .wrRsvd10 idx _ => idx == 10#4 || idx == 11#4
  | .wrRsvd12 idx _ => decide (12#4 ≤ idx)
  | .rdCtrl _ => true
  | .rdConfig _ => true
  | .wrConfig _ => true
  | .rdStatus _ => true
  | .wrStatus _ => true
  | .rdFrameLo _ => true
  | .wrFrameLo _ => true
  | .rdFrameHi _ => true
  | .wrFrameHi _ => true
  | .rdCksum _ => true
  | .wrCksum _ => true
  | .rdHumidity _ => true
  | .wrHumidity _ => true
  | .rdTemperature _ => true
  | .wrTemperature _ => true
  | .rdPinerr _ => true
  | .wrPinerr _ => true
  | .rdRsvd9 _ => true
  | .wrRsvd9 _ => true
  | .pinSetLow => true
  | .pinSetHigh => true
  | .pinIsHigh => true
  | .pinIsLow => true
  | .phaseIdle => true
  | .phaseWakeLow => true
  | .phaseWakeHold => true
  | .phaseWakeRelease => true
  | .phaseWakeSettle => true
  | .phasePresHigh => true
  | .phasePresLow => true
  | .phaseBitRise => true
  | .phaseBitHigh => true
  | .phaseCheck => true
  | .phaseDecode => true
  | .phaseComplete => true

end Sys2Proof
end

