-- ==== Sys2Proof/Decode.lean ====
section
/-! DEFINITION. The decoder and the encoder of the three formats (30_encoding.md R80 to R88), written
from spec/opcode_table.json. Decoding is total: it gives an instruction or a named reason. -/

namespace Sys2Proof

/-- Why a word is no instruction. R90(c), (d) leave these codes reserved. -/
inductive DecodeError where
  /-- A PIN code 000 or 101..111 (R90(c)). Raised by `decodePin`. -/
  | reservedPin (code : BitVec 3)
  /-- A PHASE code 12..15 (R90(d)). Raised by `decodePhase`. -/
  | reservedPhase (code : BitVec 4)
  /-- The bytes have not the format's length, or a bit above the format's width is set (R93). Raised
  by `wordOfBytes`. -/
  | badLength
deriving DecidableEq, Repr

/-! ## HBUS (R81, R82) -/

/-- `WE` = bit 36. -/
def hbusWE (w : BitVec 37) : BitVec 1 := w.extractLsb' 36 1

/-- `IDX` = bits 35:32. -/
def hbusIDX (w : BitVec 37) : BitVec 4 := w.extractLsb' 32 4

/-- `WDATA` = bits 31:0. -/
def hbusWDATA (w : BitVec 37) : Word := w.extractLsb' 0 32

/-- The rows of R82 with WE = 0. -/
def decodeRead (idx : BitVec 4) (d : Word) : Instr :=
  match idx.toNat with
  | 0 => .rdCtrl d
  | 1 => .rdConfig d
  | 2 => .rdStatus d
  | 3 => .rdFrameLo d
  | 4 => .rdFrameHi d
  | 5 => .rdCksum d
  | 6 => .rdHumidity d
  | 7 => .rdTemperature d
  | 8 => .rdPinerr d
  | 9 => .rdRsvd9 d
  | 10 => .rdRsvd10 idx d
  | 11 => .rdRsvd10 idx d
  | _ => .rdRsvd12 idx d

/-- The rows of R82 with WE = 1. At IDX 0, WDATA[0] tells START from NOP. -/
def decodeWrite (idx : BitVec 4) (d : Word) : Instr :=
  match idx.toNat with
  | 0 => if d.getLsbD 0 then .wrCtrlStart d else .wrCtrlNop d
  | 1 => .wrConfig d
  | 2 => .wrStatus d
  | 3 => .wrFrameLo d
  | 4 => .wrFrameHi d
  | 5 => .wrCksum d
  | 6 => .wrHumidity d
  | 7 => .wrTemperature d
  | 8 => .wrPinerr d
  | 9 => .wrRsvd9 d
  | 10 => .wrRsvd10 idx d
  | 11 => .wrRsvd10 idx d
  | _ => .wrRsvd12 idx d

/-- Every one of the 2^37 request words decodes (R81). -/
def decodeHbus (w : BitVec 37) : Instr :=
  if hbusWE w = 0#1 then decodeRead (hbusIDX w) (hbusWDATA w)
  else decodeWrite (hbusIDX w) (hbusWDATA w)

/-! ## PIN (R85) and PHASE (R87) -/

/-- The PIN op codes of R85. -/
def decodePin (w : BitVec 3) : Except DecodeError Instr :=
  match w.toNat with
  | 1 => .ok .pinSetLow
  | 2 => .ok .pinSetHigh
  | 3 => .ok .pinIsHigh
  | 4 => .ok .pinIsLow
  | _ => .error (.reservedPin w)

/-- The PHASE codes of R87. -/
def decodePhase (w : BitVec 4) : Except DecodeError Instr :=
  match w.toNat with
  | 0 => .ok .phaseIdle
  | 1 => .ok .phaseWakeLow
  | 2 => .ok .phaseWakeHold
  | 3 => .ok .phaseWakeRelease
  | 4 => .ok .phaseWakeSettle
  | 5 => .ok .phasePresHigh
  | 6 => .ok .phasePresLow
  | 7 => .ok .phaseBitRise
  | 8 => .ok .phaseBitHigh
  | 9 => .ok .phaseCheck
  | 10 => .ok .phaseDecode
  | 11 => .ok .phaseComplete
  | _ => .error (.reservedPhase w)

/-- The decoder: any word of any of the three formats. -/
def decode : PortWord → Except DecodeError Instr
  | .hbus w => .ok (decodeHbus w)
  | .pin w => decodePin w
  | .phase w => decodePhase w

/-! ## Words laid out as bytes

The block has no byte addressing and stores no word (R62, R73). Where bytes are asked for, a word is laid
out with bit 0 in the least significant bit of the first byte (log 5). -/

/-- A word's width in bytes, by format. -/
def Format.bytes : Format → Nat
  | .hbus => 5
  | .pin => 1
  | .phase => 1

/-- The number that bytes hold, first byte least significant. -/
def natOfBytes : List Byte → Nat
  | [] => 0
  | b :: bs => b.toNat + 256 * natOfBytes bs

/-- The n low bytes of a number, least significant first. -/
def bytesOfNat : Nat → Nat → List Byte
  | 0, _ => []
  | n + 1, w => BitVec.ofNat 8 w :: bytesOfNat n (w / 256)

/-- The word of a format that a number is, if the format is wide enough for it. -/
def wordOfNat (f : Format) (w : Nat) : Except DecodeError PortWord :=
  match f with
  | .hbus => if w < 2 ^ 37 then .ok (.hbus (BitVec.ofNat 37 w)) else .error .badLength
  | .pin => if w < 2 ^ 3 then .ok (.pin (BitVec.ofNat 3 w)) else .error .badLength
  | .phase => if w < 2 ^ 4 then .ok (.phase (BitVec.ofNat 4 w)) else .error .badLength

/-- The word that bytes hold. -/
def wordOfBytes (f : Format) (bs : List Byte) : Except DecodeError PortWord :=
  if bs.length = f.bytes then wordOfNat f (natOfBytes bs) else .error .badLength

/-- The decoder on bytes: total on any bytes. -/
def decodeBytes (f : Format) (bs : List Byte) : Except DecodeError Instr :=
  match wordOfBytes f bs with
  | .ok w => decode w
  | .error e => .error e

/-- The format that a width of the opcode table means. PIN has 3 bits and PHASE has 4, so one byte
could be either: it is read as a PHASE code (log 5). -/
def formatOfBits (nbits : Nat) : Format :=
  if nbits ≤ 3 then .pin else if nbits ≤ 8 then .phase else .hbus

/-- The instruction the decoder reads from a word numbered as spec/opcode_table.json numbers it. -/
def decodeTableWord (nbits w : Nat) : Option Instr :=
  let f := formatOfBits nbits
  if w < 2 ^ (8 * f.bytes) then
    match decodeBytes f (bytesOfNat f.bytes w) with
    | .ok i => some i
    | .error _ => none
  else none

/-! ## The encoder -/

/-- One host request: `WE || IDX || WDATA` (R81). -/
def hbusWord (we : BitVec 1) (idx : BitVec 4) (d : Word) : BitVec 37 :=
  we.setWidth 37 <<< 36 ||| idx.setWidth 37 <<< 32 ||| d.setWidth 37

/-- The word of an instruction (R82, R85, R87). -/
def encode : Instr → PortWord
  | .rdCtrl d => .hbus (hbusWord 0#1 0#4 d)
  | .wrCtrlStart d => .hbus (hbusWord 1#1 0#4 d)
  | .wrCtrlNop d => .hbus (hbusWord 1#1 0#4 d)
  | .rdConfig d => .hbus (hbusWord 0#1 1#4 d)
  | .wrConfig d => .hbus (hbusWord 1#1 1#4 d)
  | .rdStatus d => .hbus (hbusWord 0#1 2#4 d)
  | .wrStatus d => .hbus (hbusWord 1#1 2#4 d)
  | .rdFrameLo d => .hbus (hbusWord 0#1 3#4 d)
  | .wrFrameLo d => .hbus (hbusWord 1#1 3#4 d)
  | .rdFrameHi d => .hbus (hbusWord 0#1 4#4 d)
  | .wrFrameHi d => .hbus (hbusWord 1#1 4#4 d)
  | .rdCksum d => .hbus (hbusWord 0#1 5#4 d)
  | .wrCksum d => .hbus (hbusWord 1#1 5#4 d)
  | .rdHumidity d => .hbus (hbusWord 0#1 6#4 d)
  | .wrHumidity d => .hbus (hbusWord 1#1 6#4 d)
  | .rdTemperature d => .hbus (hbusWord 0#1 7#4 d)
  | .wrTemperature d => .hbus (hbusWord 1#1 7#4 d)
  | .rdPinerr d => .hbus (hbusWord 0#1 8#4 d)
  | .wrPinerr d => .hbus (hbusWord 1#1 8#4 d)
  | .rdRsvd9 d => .hbus (hbusWord 0#1 9#4 d)
  | .rdRsvd10 idx d => .hbus (hbusWord 0#1 idx d)
  | .rdRsvd12 idx d => .hbus (hbusWord 0#1 idx d)
  | .wrRsvd9 d => .hbus (hbusWord 1#1 9#4 d)
  | .wrRsvd10 idx d => .hbus (hbusWord 1#1 idx d)
  | .wrRsvd12 idx d => .hbus (hbusWord 1#1 idx d)
  | .pinSetLow => .pin 1#3
  | .pinSetHigh => .pin 2#3
  | .pinIsHigh => .pin 3#3
  | .pinIsLow => .pin 4#3
  | .phaseIdle => .phase 0#4
  | .phaseWakeLow => .phase 1#4
  | .phaseWakeHold => .phase 2#4
  | .phaseWakeRelease => .phase 3#4
  | .phaseWakeSettle => .phase 4#4
  | .phasePresHigh => .phase 5#4
  | .phasePresLow => .phase 6#4
  | .phaseBitRise => .phase 7#4
  | .phaseBitHigh => .phase 8#4
  | .phaseCheck => .phase 9#4
  | .phaseDecode => .phase 10#4
  | .phaseComplete => .phase 11#4

/-! ## The HBUS rows of the opcode table -/

/-- The (match, mask) pairs of spec/opcode_table.json's HBUS rows, in the table's order: a word is of a
row when the word under the mask is the match. -/
def hbusRows : List (BitVec 37 × BitVec 37) :=
  [(0x0000000000, 0x1F00000000), (0x1000000001, 0x1F00000001), (0x1000000000, 0x1F00000001),
    (0x0100000000, 0x1F00000000), (0x1100000000, 0x1F00000000)] ++
  [(0x0200000000, 0x1F00000000), (0x1200000000, 0x1F00000000), (0x0300000000, 0x1F00000000),
    (0x1300000000, 0x1F00000000), (0x0400000000, 0x1F00000000)] ++
  [(0x1400000000, 0x1F00000000), (0x0500000000, 0x1F00000000), (0x1500000000, 0x1F00000000),
    (0x0600000000, 0x1F00000000), (0x1600000000, 0x1F00000000)] ++
  [(0x0700000000, 0x1F00000000), (0x1700000000, 0x1F00000000), (0x0800000000, 0x1F00000000),
    (0x1800000000, 0x1F00000000), (0x0900000000, 0x1F00000000)] ++
  [(0x0A00000000, 0x1E00000000), (0x0C00000000, 0x1C00000000), (0x1900000000, 0x1F00000000),
    (0x1A00000000, 0x1E00000000), (0x1C00000000, 0x1C00000000)]

/-- The row of an HBUS instruction, as its place in `hbusRows`. -/
def hbusRow : Instr → Option Nat
  | .rdCtrl _ => some 0
  | .wrCtrlStart _ => some 1
  | .wrCtrlNop _ => some 2
  | .rdConfig _ => some 3
  | .wrConfig _ => some 4
  | .rdStatus _ => some 5
  | .wrStatus _ => some 6
  | .rdFrameLo _ => some 7
  | .wrFrameLo _ => some 8
  | .rdFrameHi _ => some 9
  | .wrFrameHi _ => some 10
  | .rdCksum _ => some 11
  | .wrCksum _ => some 12
  | .rdHumidity _ => some 13
  | .wrHumidity _ => some 14
  | .rdTemperature _ => some 15
  | .wrTemperature _ => some 16
  | .rdPinerr _ => some 17
  | .wrPinerr _ => some 18
  | .rdRsvd9 _ => some 19
  | .rdRsvd10 _ _ => some 20
  | .rdRsvd12 _ _ => some 21
  | .wrRsvd9 _ => some 22
  | .wrRsvd10 _ _ => some 23
  | .wrRsvd12 _ _ => some 24
  | .pinSetLow => none
  | .pinSetHigh => none
  | .pinIsHigh => none
  | .pinIsLow => none
  | .phaseIdle => none
  | .phaseWakeLow => none
  | .phaseWakeHold => none
  | .phaseWakeRelease => none
  | .phaseWakeSettle => none
  | .phasePresHigh => none
  | .phasePresLow => none
  | .phaseBitRise => none
  | .phaseBitHigh => none
  | .phaseCheck => none
  | .phaseDecode => none
  | .phaseComplete => none

/-- Whether a request word is of row k of the table. -/
def isOfRow (w : BitVec 37) (k : Nat) : Bool :=
  match hbusRows[k]? with
  | some row => w &&& row.2 == row.1
  | none => false

end Sys2Proof
end

