-- ==== Sys2Proof/Config.lean ====
section
/-! DEFINITION. What an implementation of the block fixes (00_scope.md R7, R9), the answers the outside
gives it (10_state.md R40, R43), and the free values of the model. The default values of the parameters
and R10's check on them are in Sys2Proof/Machine/Params.lean. -/

namespace Sys2Proof

/-- The parameters of R7, and those of R9 that a rule uses. One value of this type is a configuration
of the block; no step changes it. -/
structure Params where
  /-- `T_WAKE_LOW`, ticks. -/
  tWakeLow : Nat
  /-- `T_WAKE_REL`, ticks. -/
  tWakeRel : Nat
  /-- `T_PRES_HIGH`, ticks. -/
  tPresHigh : Nat
  /-- `T_PRES_LOW`, ticks. -/
  tPresLow : Nat
  /-- `T_RISE`, ticks. -/
  tRise : Nat
  /-- `T_HIGH_CAP`, ticks. -/
  tHighCap : Nat
  /-- `T_THRESH`, ticks. -/
  tThresh : Nat
  /-- `POLL_INCLUSIVE`: whether a poll of budget T takes T + 1 samples. -/
  pollInclusive : Bool
  /-- `PINERR_W`: the width of the opaque pin-fault payload. -/
  pinErrW : Nat
deriving DecidableEq, Repr, Inhabited

/-- What the line answers when the controller takes the response of a pin transaction (R39, R43).
A set operation's `Ok` carries no value, so for it the Boolean means nothing. -/
inductive PinReply where
  /-- `Ok(b)`. -/
  | ok (b : Bool)
  /-- `Err(p)`: the wires of the payload; the port has `PINERR_W` of them (log 8). -/
  | err (p : Word)
  /-- No response yet (R250): the transaction stays on the port. -/
  | silent
deriving DecidableEq, Repr, Inhabited

namespace Config

/-- FREE VALUE (log 1): the line's answer number n, where the state lists none (R43, D26). -/
opaque freeReply : Nat → PinReply

/-- FREE VALUE (log 3): whether the tick is there at tick wait number n, where the state does not say
(R40, 93_implementation_defined.md). -/
opaque freeTick : Nat → Bool

/-- `BASE` (R9, R227), left open: the address of the register window in the platform's map (log 15). -/
opaque base : Nat

/-- `POLL_OVERHEAD` (R9, R247), left open: the time a pin transaction takes. No rule uses it (log 15). -/
opaque pollOverhead : Nat

/-- `MIN_READ_INTERVAL` (R9, R246), left open: the block does not enforce it (log 15). -/
opaque minReadInterval : Nat

/-- `DONE_ROUTING` (R9, R42), left open: the platform input that `done` is wired to (log 15). -/
opaque doneRouting : Nat

end Config

end Sys2Proof
end

