-- ==== Sys2Proof/Machine/Params.lean ====
section
/-! DEFINITION. The default configuration (R7, R9), R10's check, and the number of samples of a poll
(R141). -/

namespace Sys2Proof

/-- The defaults of R7 and R9. `PINERR_W` has no default in the spec; 32 is the model's (log 7). -/
def Params.default : Params :=
  { tWakeLow := 3000, tWakeRel := 25, tPresHigh := 85, tPresLow := 85, tRise := 55,
    tHighCap := 70, tThresh := 30, pollInclusive := false, pinErrW := 32 }

/-- R10's range of one `T_*` parameter. -/
def Params.budgetOk (t : Nat) : Bool := decide (1 ≤ t) && decide (t ≤ 65535)

/-- The number N of samples of a poll of budget T (R141): T, or T + 1 when `POLL_INCLUSIVE`. -/
def Params.samples (p : Params) (t : Nat) : Nat := t + (if p.pollInclusive then 1 else 0)

/-- R10, and R9's range of `PINERR_W`. `T_THRESH` lies below the largest elapsed count of the high
poll, which is one less than its number of samples. -/
def Params.ok (p : Params) : Bool :=
  Params.budgetOk p.tWakeLow && Params.budgetOk p.tWakeRel && Params.budgetOk p.tPresHigh &&
  Params.budgetOk p.tPresLow && Params.budgetOk p.tRise && Params.budgetOk p.tHighCap &&
  Params.budgetOk p.tThresh && decide (p.tThresh + 1 < p.samples p.tHighCap) &&
  decide (1 ≤ p.pinErrW) && decide (p.pinErrW ≤ 32)

end Sys2Proof
end

