-- ==== Sys2Proof/Machine/State.lean ====
section
/-! DEFINITION. The state of the block (10_state.md), its reset values (R44), and the reasons a step can
stop. The block has no byte memory (R60): its one address space is the register window, and the
registers are fields. -/

namespace Sys2Proof.Machine

/-- Why the machine stops with a fault. -/
inductive Fault where
  /-- `phase` holds a reserved code 12..15 (R90(d), 93_implementation_defined.md: "fault"). Raised by
  the fetch (`fetch`). SAFE: no run reaches it. -/
  | reservedPhase (code : BitVec 4)
deriving DecidableEq, Repr

/-- Why the machine refuses a step. -/
inductive Refusal where
  /-- An instruction with no meaning yet. Raised by `exec`'s refused arms; there are none. SAFE. -/
  | notModelled (mnemonic : String)
  /-- The pin port holds a reserved op code 101..111 (R90(c), 93_implementation_defined.md: "refuse").
  Raised by the fetch (`fetch`). SAFE: the controller never issues one. -/
  | reservedPinOp (code : BitVec 3)
  /-- A configuration outside R10's range (93_implementation_defined.md: "refused"). Raised by the fetch
  (`fetch`). SAFE. -/
  | configOutOfRange
deriving DecidableEq, Repr

/-- The level last commanded by a successful set transaction (R38). -/
inductive LineCmd where
  | unset
  | low
  | high
deriving DecidableEq, Repr

/-- Which agent moves next (R20, R69; log 4). -/
inductive Turn where
  /-- The host issues one request, an HBUS word (R41, R81). -/
  | host (request : BitVec 37)
  /-- The controller takes its next step (R140). -/
  | controller
  /-- The platform resets the block (R240, R241). -/
  | reset
deriving DecidableEq, Repr

/-- The state of the block and of the inputs that reach it. -/
structure State where
  /-- The configuration (R7, R9); no step writes it. -/
  params : Params
  /-- R21: which controller step is next; codes R87. -/
  phase : BitVec 4
  /-- R23: the variant latched by START. -/
  lvar : BitVec 1
  /-- R24: CONFIG.VARIANT. -/
  variant : BitVec 1
  /-- R28: STATUS.VALID. -/
  valid : BitVec 1
  /-- R29: STATUS.ERR; codes R88. -/
  err : BitVec 3
  /-- R30: STATUS.BITCNT. -/
  bitcnt : BitVec 6
  /-- R31: STATUS.PINOP; codes R85. -/
  pinop : BitVec 3
  /-- R32: the five frame bytes, `frame[0]` in the most significant place. -/
  frame : BitVec 40
  /-- R33: CKSUM.RECEIVED. -/
  cksumReceived : Byte
  /-- R33: CKSUM.CALC. -/
  cksumCalc : Byte
  /-- R33: CKSUM.CKV. -/
  ckv : BitVec 1
  /-- R34: binary32 pattern. -/
  humidity : Word
  /-- R35: binary32 pattern. -/
  temperature : Word
  /-- R36: `zext_32` of the pin-fault payload. -/
  pinerr : Word
  /-- R37: the elapsed count of the poll in progress. -/
  ecnt : BitVec 16
  /-- R37: the ticks left in a delay phase. -/
  dcnt : BitVec 16
  /-- R38. -/
  lineCmd : LineCmd
  /-- R39: the op code of the transaction that waits for its response; 000 when there is none (log 2). -/
  port : BitVec 3
  /-- R141: a failed sample waits for its tick (log 3). -/
  awaitTick : Bool
  /-- R41: RDATA of the host's last read (log 6). -/
  rdata : Word
  /-- The model's own: which agent moves next; the controller when the list is empty (log 4). -/
  turns : List Turn
  /-- The model's own: the line's next answers; `Config.freeReply` when the list is empty (log 1). -/
  line : List PinReply
  /-- The model's own: the number of answers taken so far (log 1). -/
  lineDraws : Nat
  /-- The model's own: whether the tick is there at the next tick waits; `Config.freeTick` when the
  list is empty (log 3). -/
  ticks : List Bool
  /-- The model's own: the number of tick waits so far (log 3). -/
  tickDraws : Nat
deriving DecidableEq, Repr

/-- The state right after reset (R44, R240). -/
def State.reset : State :=
  { params := Params.default, phase := 0, lvar := 0, variant := 0, valid := 0, err := 0, bitcnt := 0,
    pinop := 0, frame := 0, cksumReceived := 0, cksumCalc := 0, ckv := 0, humidity := 0,
    temperature := 0, pinerr := 0, ecnt := 0, dcnt := 0, lineCmd := .unset, port := 0,
    awaitTick := false, rdata := 0, turns := [], line := [], lineDraws := 0, ticks := [],
    tickDraws := 0 }

end Sys2Proof.Machine
end

