-- ==== Sys2Proof/Machine/Operands.lean ====
section
/-! DEFINITION. The operand forms: the named codes of `phase` and of the pin port, the acting bit of a
host write (R83), the bytes and bits of the frame (R32, R64), the pin-fault payload (R36), and the
answers taken from the line and the time base (R39, R40, R43). -/

namespace Sys2Proof.Machine

/-! ## Codes -/

/-- The phases of R87. -/
inductive Phase where
  | idle | wakeLow | wakeHold | wakeRelease | wakeSettle | presHigh | presLow | bitRise | bitHigh
  | check | decode | complete
deriving DecidableEq, Repr

/-- The phase codes of R87. -/
def phaseCode : Phase → BitVec 4
  | .idle => 0
  | .wakeLow => 1
  | .wakeHold => 2
  | .wakeRelease => 3
  | .wakeSettle => 4
  | .presHigh => 5
  | .presLow => 6
  | .bitRise => 7
  | .bitHigh => 8
  | .check => 9
  | .decode => 10
  | .complete => 11

/-- The pin operations of R85. -/
inductive PinOp where
  | setLow | setHigh | isHigh | isLow
deriving DecidableEq, Repr

/-- The PIN codes of R85. -/
def pinCode : PinOp → BitVec 3
  | .setLow => 1
  | .setHigh => 2
  | .isHigh => 3
  | .isLow => 4

/-- `PulseLevel` of R18: the level a poll waits for. -/
inductive PulseLevel where
  | high | low
deriving DecidableEq, Repr

/-- R142: a wait for High samples with IS_HIGH, a wait for Low with IS_LOW. -/
def sampleOp : PulseLevel → PinOp
  | .high => .isHigh
  | .low => .isLow

/-! ## Fields of a host word -/

/-- A field whose lowest bit stands at bit `lo` of a 32-bit register (10_state.md §3). -/
def fieldAt (lo : Nat) {w : Nat} (v : BitVec w) : Word := v.setWidth 32 <<< lo

/-! ## Host operands (R83) -/

/-- `WDATA[0]`, the only bit of a host write that acts. -/
def wdataBit0 (wdata : Word) : BitVec 1 := wdata.extractLsb' 0 1

/-! ## The frame (R32, R64, R65) -/

/-- `frame[k]`, k = 0..4. -/
def frameByte (f : BitVec 40) (k : Nat) : Byte := f.extractLsb' (8 * (4 - k)) 8

/-- `frame[k] <- frame[k] | v`, k = 0..4; there is no other byte (log 12). -/
def orFrameByte (f : BitVec 40) (k : Nat) (v : Byte) : BitVec 40 :=
  if k < 5 then f ||| ((v.setWidth 40) <<< (8 * (4 - k))) else f

/-- The frame assembler: bit i of the stream into byte i / 8 at bit position 7 - (i mod 8) (R164). -/
def storeFrameBit (f : BitVec 40) (i : Nat) (b : BitVec 1) : BitVec 40 :=
  orFrameByte f (i / 8) ((b.setWidth 8) <<< (7 - i % 8))

/-! ## The pin-fault payload (R36) -/

/-- `zext_32(p)` for the `PINERR_W` wires of the payload (log 8). -/
def pinPayload (width : Nat) (p : Word) : Word := BitVec.ofNat 32 (p.toNat % 2 ^ width)

/-! ## Answers from outside -/

/-- The line's next answer (R43): the first listed one, else the free value. -/
def nextReply (s : State) : PinReply :=
  match s.line with
  | r :: _ => r
  | [] => Config.freeReply s.lineDraws

/-- The state once the next answer is taken. -/
def takeReply (s : State) : State := { s with line := s.line.tail, lineDraws := s.lineDraws + 1 }

/-- Whether the tick is there at the next tick wait (R40). -/
def nextTick (s : State) : Bool :=
  match s.ticks with
  | b :: _ => b
  | [] => Config.freeTick s.tickDraws

/-- The state once the next tick wait is answered. -/
def takeTick (s : State) : State := { s with ticks := s.ticks.tail, tickDraws := s.tickDraws + 1 }

end Sys2Proof.Machine
end

