-- ==== Sys2Proof/Machine/Flags.lean ====
section
/-! DEFINITION. What is computed from the state: BUSY and DONE (R27), the STATUS and CKSUM words and the
other slots of the window (R61, R84), the classifier (R163), the checksum (R180), the decoders (R183 to
R185) and the range check (R187). -/

namespace Sys2Proof.Machine

/-- BUSY: `phase` is neither IDLE nor COMPLETE (R27). -/
def busy (s : State) : Bool := s.phase != phaseCode .idle && s.phase != phaseCode .complete

/-- DONE, and the `done` output: `phase` is COMPLETE (R27, R42). -/
def done (s : State) : Bool := s.phase == phaseCode .complete

/-- The STATUS word: each field at its place, every other bit 0 (R26, R84). -/
def statusWord (s : State) : Word :=
  fieldAt 0 (BitVec.ofBool (busy s)) ||| fieldAt 1 (BitVec.ofBool (done s)) ||| fieldAt 2 s.valid |||
  fieldAt 4 s.err ||| fieldAt 8 s.bitcnt ||| fieldAt 16 s.lvar ||| fieldAt 20 s.pinop |||
  fieldAt 24 s.phase

/-- FRAME_LO: `frame[0] || frame[1] || frame[2] || frame[3]` (R32, R84). -/
def frameLo (s : State) : Word :=
  fieldAt 24 (frameByte s.frame 0) ||| fieldAt 16 (frameByte s.frame 1) |||
  fieldAt 8 (frameByte s.frame 2) ||| fieldAt 0 (frameByte s.frame 3)

/-- FRAME_HI: `zext_32(frame[4])` (R32). -/
def frameHi (s : State) : Word := fieldAt 0 (frameByte s.frame 4)

/-- CKSUM: `zext_32(CKV || CALC || RECEIVED)` (R33, R84). -/
def cksumWord (s : State) : Word :=
  fieldAt 0 s.cksumReceived ||| fieldAt 8 s.cksumCalc ||| fieldAt 16 s.ckv

/-- CONFIG: `zext_32(VARIANT)` (R114). -/
def configWord (s : State) : Word := fieldAt 0 s.variant

/-- What a host read of word slot IDX gives (R61): the read function of the register window. -/
def readSlot (s : State) (idx : BitVec 4) : Word :=
  match idx.toNat with
  | 1 => configWord s
  | 2 => statusWord s
  | 3 => frameLo s
  | 4 => frameHi s
  | 5 => cksumWord s
  | 6 => s.humidity
  | 7 => s.temperature
  | 8 => s.pinerr
  | _ => 0

/-- The byte offset of a slot in the window (R61). -/
def slotOffset (idx : BitVec 4) : Nat := 4 * idx.toNat

/-- The platform address of a slot (R60, R227; log 15). -/
def slotAddress (idx : BitVec 4) : Nat := Config.base + slotOffset idx

/-- The pulse-width classifier: a strict comparison of whole counts (R163). -/
def classify (p : Params) (e : BitVec 16) : BitVec 1 := BitVec.ofBool (decide (p.tThresh < e.toNat))

/-- The checksum: the sum of the four payload bytes mod 256 (R180). -/
def checksum (f : BitVec 40) : Byte := frameByte f 0 + frameByte f 1 + frameByte f 2 + frameByte f 3

/-- `decodeA`: humidity and temperature of Variant A (R183). -/
def decodeA (b0 _b1 b2 _b3 : Byte) : Word × Word := (f32OfNat b0.toNat, f32OfNat b2.toNat)

/-- Variant B's raw humidity: `(zext_16(b0) << 8) | zext_16(b1)` (R184). -/
def rawHumidity (b0 b1 : Byte) : BitVec 16 := (b0.setWidth 16 <<< 8) ||| b1.setWidth 16

/-- Variant B's temperature magnitude: `(zext_16(b2 & 0x7F) << 8) | zext_16(b3)` (R185). -/
def rawMagnitude (b2 b3 : Byte) : BitVec 16 := ((b2 &&& 0x7F#8).setWidth 16 <<< 8) ||| b3.setWidth 16

/-- Tenths: `f32(n) /f 10.0` (R184, R185). -/
def tenths (n : BitVec 16) : Word := f32Div (f32OfNat n.toNat) f32Ten

/-- `decodeB`: humidity and sign-magnitude temperature of Variant B (R184, R185). -/
def decodeB (b0 b1 b2 b3 : Byte) : Word × Word :=
  let t := tenths (rawMagnitude b2 b3)
  (tenths (rawHumidity b0 b1), if b2.getLsbD 7 then f32Neg t else t)

/-- The decoder that `lvar` selects, on the payload of a frame (R187). -/
def decodeFrame (lvar : BitVec 1) (f : BitVec 40) : Word × Word :=
  if lvar = 0#1 then decodeA (frameByte f 0) (frameByte f 1) (frameByte f 2) (frameByte f 3)
  else decodeB (frameByte f 0) (frameByte f 1) (frameByte f 2) (frameByte f 3)

/-- The range check: `0.0 <= h and h <= 100.0` as binary32 values (R187). -/
def humidityInRange (h : Word) : Bool := f32Le 0#32 h && f32Le h f32Hundred

end Sys2Proof.Machine
end

