-- ==== Sys2Proof/Machine/Ops.lean ====
section
/-! DEFINITION. The shared operations: ending a read with an error (`raiseError`, R217) and with a
Reading (`succeed`, R190), the pin transaction (R39, R86), the tick wait (R40), the polling primitive
(R141), the delay (R144, R146), START (R112) and the platform's reset (R240, R241). Each is a function of
the state to the next state: none of them stops. -/

namespace Sys2Proof.Machine

/-! ## The end of a read -/

/-- The error kinds of R210, with what each carries that `raise` records. ChecksumMismatch carries its
two bytes in CKSUM, which CHECK has written already (R217). -/
inductive ErrKind where
  | notPresent
  | checksumMismatch
  | invalidData
  | timeout
  | pinError (p : Word) (op : PinOp)
deriving DecidableEq, Repr

/-- The ERR codes of R88. -/
def errCode : ErrKind → BitVec 3
  | .notPresent => 1
  | .checksumMismatch => 2
  | .invalidData => 3
  | .timeout => 4
  | .pinError _ _ => 5

/-- `raise E(info)`: the block's one way of taking an error (R15, R217). There is no return from an
error: the next START begins a new read (R219). -/
def raiseError (e : ErrKind) (s : State) : State :=
  let s := { s with err := errCode e, valid := 0, phase := phaseCode .complete }
  match e with
  | .pinError p op => { s with pinerr := pinPayload s.params.pinErrW p, pinop := pinCode op }
  | _ => s

/-- `succeed(h, t)`: the only path that sets VALID (R190). ERR stays as START left it. -/
def succeed (h t : Word) (s : State) : State :=
  { s with humidity := h, temperature := t, valid := 1, phase := phaseCode .complete }

/-! ## START (R112) and reset (R240, R241) -/

/-- The effect of `CTRL.START = 1`: dropped while BUSY, else a new read begins (R112). -/
def startRead (s : State) : State :=
  if busy s then s
  else
    { s with
      lvar := s.variant, frame := 0, bitcnt := 0, valid := 0, err := 0, pinop := 0, pinerr := 0,
      cksumReceived := 0, cksumCalc := 0, ckv := 0, humidity := 0, temperature := 0, ecnt := 0,
      dcnt := 0, phase := phaseCode .wakeLow }

/-- The platform's reset: every piece of state at its reset value; the configuration and the inputs
still to come stay (R240, R241; log 13). -/
def resetBlock (s : State) : State :=
  { State.reset with
    params := s.params, turns := s.turns, line := s.line, lineDraws := s.lineDraws,
    ticks := s.ticks, tickDraws := s.tickDraws }

/-! ## Pin transactions and ticks -/

/-- `PinTx(op)` (R14, R39): the line's answer is taken. `Err(p)` raises PinError at every call site
(R215), `Ok(b)` goes on with `k b`, and with no answer the transaction stays on the port (R250). -/
def pinTx (op : PinOp) (k : Bool → State → State) (s : State) : State :=
  match nextReply s with
  | .ok b => k b { takeReply s with port := 0 }
  | .err p => raiseError (.pinError p op) { takeReply s with port := 0 }
  | .silent => { takeReply s with port := pinCode op }

/-- `Tick()` (R14, R40): goes on with `k` when the tick is there, with `wait` when it is not. -/
def onTick (k wait : State → State) (s : State) : State :=
  if nextTick s then k (takeTick s) else wait (takeTick s)

/-! ## The polling primitive (R141) -/

/-- After the tick of a failed sample: the elapsed count grows, and the N-th failed sample raises E. The
count is compared before it is cut to 16 bits (log 9). -/
def countFailed (n : Nat) (e : ErrKind) (s : State) : State :=
  let s' := { s with ecnt := s.ecnt + 1, awaitTick := false }
  if s.ecnt.toNat + 1 = n then raiseError e s' else s'

/-- A sample that returned `Ok(false)`: wait for the tick, then count it. -/
def failedSample (n : Nat) (e : ErrKind) (s : State) : State :=
  onTick (countFailed n e) (fun t => { t with awaitTick := true }) s

/-- What a poll does with the `Ok(b)` of a sample: `Ok(true)` ends it with success. -/
def sampled (n : Nat) (e : ErrKind) (success : State → State) (b : Bool) (s : State) : State :=
  if b then success s else failedSample n e s

/-- One controller step of `poll(level, T, E)`: one sample, and one tick when it fails (R140, R141). A
step whose tick had not come waits for it again (log 3). -/
def pollStep (level : PulseLevel) (n : Nat) (e : ErrKind) (success : State → State) (s : State) : State :=
  if s.awaitTick then failedSample n e s else pinTx (sampleOp level) (sampled n e success) s

/-! ## The delay (R144, R146) -/

/-- After the tick of a delay step: `dcnt` falls, and at 0 the delay ends. -/
def countDelay (finish : State → State) (s : State) : State :=
  let s' := { s with dcnt := s.dcnt - 1 }
  if s'.dcnt = 0 then finish s' else s'

/-- One controller step of a delay phase: one tick (R144, R146). While the tick has not come nothing
changes. -/
def delayStep (finish : State → State) (s : State) : State := onTick (countDelay finish) id s

/-! ## Host reads -/

/-- A read's response: RDATA (R41, R81). Nothing else changes (R67). -/
def respond (v : Word) (s : State) : State := { s with rdata := v }

end Sys2Proof.Machine
end

