-- ==== Sys2Proof/Machine/ChecksumDecode.lean ====
section
/-! DEFINITION. CHECK and DECODE (43_checksum_decode.md R180, R187). Neither issues a transaction or
consumes a tick. -/

namespace Sys2Proof.Machine

/-- CHECK: CKSUM is written on both paths, then compared (R180). -/
def checkFrame (s : State) : State :=
  let s' := { s with cksumReceived := frameByte s.frame 4, cksumCalc := checksum s.frame, ckv := 1 }
  if frameByte s.frame 4 = checksum s.frame then { s' with phase := phaseCode .decode }
  else raiseError .checksumMismatch s'

/-- DECODE: the decoder that `lvar` selects, then the range check (R187). -/
def decodeStep (s : State) : State :=
  let r := decodeFrame s.lvar s.frame
  if humidityInRange r.1 then succeed r.1 r.2 s else raiseError .invalidData s

/-- PHASE.CHECK (R180). -/
def execPhaseCheck (s : State) : Host.Outcome State Fault Refusal :=
  .next (checkFrame s)

/-- PHASE.DECODE (R187). -/
def execPhaseDecode (s : State) : Host.Outcome State Fault Refusal :=
  .next (decodeStep s)

end Sys2Proof.Machine
end

