-- ==== Sys2Proof/Machine/HostAccess.lean ====
section
/-! DEFINITION. The host's register operations (40_host_access.md R110 to R131). A read gives RDATA and
changes nothing else; a write has an effect only at CTRL and CONFIG. No host access stops (R91). -/

namespace Sys2Proof.Machine

/-! ## Reads -/

/-- RD.CTRL (R111). -/
def execRdCtrl (_wdata : Word) (s : State) : Host.Outcome State Fault Refusal :=
  .next (respond 0 s)

/-- RD.CONFIG (R114). -/
def execRdConfig (_wdata : Word) (s : State) : Host.Outcome State Fault Refusal :=
  .next (respond (configWord s) s)

/-- RD.STATUS (R116). -/
def execRdStatus (_wdata : Word) (s : State) : Host.Outcome State Fault Refusal :=
  .next (respond (statusWord s) s)

/-- RD.FRAME_LO (R118). -/
def execRdFrameLo (_wdata : Word) (s : State) : Host.Outcome State Fault Refusal :=
  .next (respond (frameLo s) s)

/-- RD.FRAME_HI (R119). -/
def execRdFrameHi (_wdata : Word) (s : State) : Host.Outcome State Fault Refusal :=
  .next (respond (frameHi s) s)

/-- RD.CKSUM (R120). -/
def execRdCksum (_wdata : Word) (s : State) : Host.Outcome State Fault Refusal :=
  .next (respond (cksumWord s) s)

/-- RD.HUMIDITY (R121). -/
def execRdHumidity (_wdata : Word) (s : State) : Host.Outcome State Fault Refusal :=
  .next (respond s.humidity s)

/-- RD.TEMPERATURE (R122). -/
def execRdTemperature (_wdata : Word) (s : State) : Host.Outcome State Fault Refusal :=
  .next (respond s.temperature s)

/-- RD.PINERR (R123). -/
def execRdPinerr (_wdata : Word) (s : State) : Host.Outcome State Fault Refusal :=
  .next (respond s.pinerr s)

/-- RD.RSVD (R130): reads 0. -/
def execRdRsvd9 (_wdata : Word) (s : State) : Host.Outcome State Fault Refusal :=
  .next (respond 0 s)

/-- RD.RSVD (R130): reads 0. -/
def execRdRsvd10 (_idx : BitVec 4) (_wdata : Word) (s : State) : Host.Outcome State Fault Refusal :=
  .next (respond 0 s)

/-- RD.RSVD (R130): reads 0. -/
def execRdRsvd12 (_idx : BitVec 4) (_wdata : Word) (s : State) : Host.Outcome State Fault Refusal :=
  .next (respond 0 s)

/-! ## The writes that act -/

/-- WR.CTRL.START (R112). -/
def execWrCtrlStart (_wdata : Word) (s : State) : Host.Outcome State Fault Refusal :=
  .next (startRead s)

/-- WR.CTRL.NOP (R113): no effect. -/
def execWrCtrlNop (_wdata : Word) (s : State) : Host.Outcome State Fault Refusal :=
  .next s

/-- WR.CONFIG (R115): WDATA[0] is the new VARIANT; dropped while BUSY. -/
def execWrConfig (wdata : Word) (s : State) : Host.Outcome State Fault Refusal :=
  .next (if busy s then s else { s with variant := wdataBit0 wdata })

/-! ## The writes that do not act (R117, R124 to R129, R131) -/

/-- WR.STATUS (R117): no effect. -/
def execWrStatus (_wdata : Word) (s : State) : Host.Outcome State Fault Refusal :=
  .next s

/-- WR.FRAME_LO (R124): no effect. -/
def execWrFrameLo (_wdata : Word) (s : State) : Host.Outcome State Fault Refusal :=
  .next s

/-- WR.FRAME_HI (R125): no effect. -/
def execWrFrameHi (_wdata : Word) (s : State) : Host.Outcome State Fault Refusal :=
  .next s

/-- WR.CKSUM (R126): no effect. -/
def execWrCksum (_wdata : Word) (s : State) : Host.Outcome State Fault Refusal :=
  .next s

/-- WR.HUMIDITY (R127): no effect. -/
def execWrHumidity (_wdata : Word) (s : State) : Host.Outcome State Fault Refusal :=
  .next s

/-- WR.TEMPERATURE (R128): no effect. -/
def execWrTemperature (_wdata : Word) (s : State) : Host.Outcome State Fault Refusal :=
  .next s

/-- WR.PINERR (R129): no effect. -/
def execWrPinerr (_wdata : Word) (s : State) : Host.Outcome State Fault Refusal :=
  .next s

/-- WR.RSVD (R131): no effect. -/
def execWrRsvd9 (_wdata : Word) (s : State) : Host.Outcome State Fault Refusal :=
  .next s

/-- WR.RSVD (R131): no effect. -/
def execWrRsvd10 (_idx : BitVec 4) (_wdata : Word) (s : State) : Host.Outcome State Fault Refusal :=
  .next s

/-- WR.RSVD (R131): no effect. -/
def execWrRsvd12 (_idx : BitVec 4) (_wdata : Word) (s : State) : Host.Outcome State Fault Refusal :=
  .next s

end Sys2Proof.Machine
end

