-- ==== Sys2Proof/Machine/BitSampling.lean ====
section
/-! DEFINITION. The bit-sampling loop (42_bit_sampling.md R160 to R168): BIT_RISE and BIT_HIGH, the
classifier and the frame assembler. -/

namespace Sys2Proof.Machine

/-- BIT_RISE's success: the rise wait's elapsed count is discarded (R161). -/
def bitRiseDone (s : State) : State := { s with ecnt := 0, phase := phaseCode .bitHigh }

/-- BIT_HIGH's success: the elapsed count is classified and the bit stored (R162 to R164). -/
def bitHighDone (s : State) : State :=
  { s with
    frame := storeFrameBit s.frame s.bitcnt.toNat (classify s.params s.ecnt),
    bitcnt := s.bitcnt + 1, ecnt := 0,
    phase := if s.bitcnt + 1 = 40 then phaseCode .check else phaseCode .bitRise }

/-- A sample of BIT_RISE that returned `Ok(b)` (R141, R161). -/
def bitRiseSampled (b : Bool) (s : State) : State :=
  sampled (s.params.samples s.params.tRise) .timeout bitRiseDone b s

/-- A sample of BIT_HIGH that returned `Ok(b)` (R141, R162). -/
def bitHighSampled (b : Bool) (s : State) : State :=
  sampled (s.params.samples s.params.tHighCap) .timeout bitHighDone b s

/-- PHASE.BIT_RISE (R161): `poll(High, T_RISE, Timeout)`. -/
def execPhaseBitRise (s : State) : Host.Outcome State Fault Refusal :=
  .next (pollStep .high (s.params.samples s.params.tRise) .timeout bitRiseDone s)

/-- PHASE.BIT_HIGH (R162): `poll(Low, T_HIGH_CAP, Timeout)`, measuring the high time. -/
def execPhaseBitHigh (s : State) : Host.Outcome State Fault Refusal :=
  .next (pollStep .low (s.params.samples s.params.tHighCap) .timeout bitHighDone s)

end Sys2Proof.Machine
end

