-- ==== Sys2Proof/Machine/Wakeup.lean ====
section
/-! DEFINITION. Wake-up, presence handshake and the quiescent phases (41_wakeup_presence.md R143 to
R150). Each phase with a pin transaction has a definition for what it does once the transaction returned
`Ok`, which the PIN meanings share. -/

namespace Sys2Proof.Machine

/-! ## What a phase does after its transaction -/

/-- WAKE_LOW after `Ok` (R143). -/
def wakeLowDone (s : State) : State :=
  { s with
    lineCmd := .low, dcnt := BitVec.ofNat 16 s.params.tWakeLow, phase := phaseCode .wakeHold }

/-- WAKE_RELEASE after `Ok` (R145). -/
def wakeReleaseDone (s : State) : State :=
  { s with
    lineCmd := .high, dcnt := BitVec.ofNat 16 s.params.tWakeRel, phase := phaseCode .wakeSettle }

/-- The end of WAKE_HOLD (R144). -/
def wakeHoldDone (s : State) : State := { s with phase := phaseCode .wakeRelease }

/-- The end of WAKE_SETTLE (R146). -/
def wakeSettleDone (s : State) : State := { s with ecnt := 0, phase := phaseCode .presHigh }

/-- PRES_HIGH's success: the elapsed count is discarded (R147). -/
def presHighDone (s : State) : State := { s with ecnt := 0, phase := phaseCode .presLow }

/-- PRES_LOW's success (R148). -/
def presLowDone (s : State) : State := { s with ecnt := 0, phase := phaseCode .bitRise }

/-- A sample of PRES_HIGH that returned `Ok(b)` (R141, R147). -/
def presHighSampled (b : Bool) (s : State) : State :=
  sampled (s.params.samples s.params.tPresHigh) .notPresent presHighDone b s

/-- A sample of PRES_LOW that returned `Ok(b)` (R141, R148). -/
def presLowSampled (b : Bool) (s : State) : State :=
  sampled (s.params.samples s.params.tPresLow) .notPresent presLowDone b s

/-! ## The phases -/

/-- PHASE.IDLE (R150): no controller step, so nothing changes (log 14). -/
def execPhaseIdle (s : State) : Host.Outcome State Fault Refusal :=
  .next s

/-- PHASE.WAKE_LOW (R143). -/
def execPhaseWakeLow (s : State) : Host.Outcome State Fault Refusal :=
  .next (pinTx .setLow (fun _ t => wakeLowDone t) s)

/-- PHASE.WAKE_HOLD (R144). -/
def execPhaseWakeHold (s : State) : Host.Outcome State Fault Refusal :=
  .next (delayStep wakeHoldDone s)

/-- PHASE.WAKE_RELEASE (R145). -/
def execPhaseWakeRelease (s : State) : Host.Outcome State Fault Refusal :=
  .next (pinTx .setHigh (fun _ t => wakeReleaseDone t) s)

/-- PHASE.WAKE_SETTLE (R146). -/
def execPhaseWakeSettle (s : State) : Host.Outcome State Fault Refusal :=
  .next (delayStep wakeSettleDone s)

/-- PHASE.PRES_HIGH (R147): `poll(High, T_PRES_HIGH, NotPresent)`. -/
def execPhasePresHigh (s : State) : Host.Outcome State Fault Refusal :=
  .next (pollStep .high (s.params.samples s.params.tPresHigh) .notPresent presHighDone s)

/-- PHASE.PRES_LOW (R148): `poll(Low, T_PRES_LOW, NotPresent)`. -/
def execPhasePresLow (s : State) : Host.Outcome State Fault Refusal :=
  .next (pollStep .low (s.params.samples s.params.tPresLow) .notPresent presLowDone s)

/-- PHASE.COMPLETE (R150): no controller step, so nothing changes (log 14). -/
def execPhaseComplete (s : State) : Host.Outcome State Fault Refusal :=
  .next s

end Sys2Proof.Machine
end

