-- ==== Sys2Proof/Machine/Pin.lean ====
section
/-! DEFINITION. The pin transactions (R85, R86) as operations of their own. A phase issues its
transaction and, when the line answers at once, finishes its step (Wakeup.lean, BitSampling.lean). When
the line has not answered, the op code stays on the port, the next controller step fetches it from
there, and its meaning takes the answer and lets the phase that issued it go on (R39, R250; log 2). -/

namespace Sys2Proof.Machine

/-- SET_LOW returned `Ok`: WAKE_LOW, which issues it, goes on (R143). In a phase that does not issue it,
which no run reaches, the transaction has its own effect only (R38; log 12). -/
def setLowAnswered (_b : Bool) (s : State) : State :=
  if s.phase = phaseCode .wakeLow then wakeLowDone s else { s with lineCmd := .low }

/-- SET_HIGH returned `Ok`: WAKE_RELEASE, which issues it, goes on (R145). -/
def setHighAnswered (_b : Bool) (s : State) : State :=
  if s.phase = phaseCode .wakeRelease then wakeReleaseDone s else { s with lineCmd := .high }

/-- IS_HIGH returned `Ok(b)`: the poll for High that issued it goes on (R142, R147, R161). -/
def isHighAnswered (b : Bool) (s : State) : State :=
  if s.phase = phaseCode .presHigh then presHighSampled b s
  else if s.phase = phaseCode .bitRise then bitRiseSampled b s
  else s

/-- IS_LOW returned `Ok(b)`: the poll for Low that issued it goes on (R142, R148, R162). -/
def isLowAnswered (b : Bool) (s : State) : State :=
  if s.phase = phaseCode .presLow then presLowSampled b s
  else if s.phase = phaseCode .bitHigh then bitHighSampled b s
  else s

/-- PIN.SET_LOW (R86, R143). -/
def execPinSetLow (s : State) : Host.Outcome State Fault Refusal :=
  .next (pinTx .setLow setLowAnswered s)

/-- PIN.SET_HIGH (R86, R145). -/
def execPinSetHigh (s : State) : Host.Outcome State Fault Refusal :=
  .next (pinTx .setHigh setHighAnswered s)

/-- PIN.IS_HIGH (R86, R141). -/
def execPinIsHigh (s : State) : Host.Outcome State Fault Refusal :=
  .next (pinTx .isHigh isHighAnswered s)

/-- PIN.IS_LOW (R86, R142). -/
def execPinIsLow (s : State) : Host.Outcome State Fault Refusal :=
  .next (pinTx .isLow isLowAnswered s)

end Sys2Proof.Machine
end

