-- ==== Sys2Proof/Machine/Dispatch.lean ====
section
/-! DEFINITION. The dispatch: one arm per constructor of Instr, each one call of that operation's
meaning. -/

namespace Sys2Proof.Machine

def exec (i : Instr) (s : State) : Host.Outcome State Fault Refusal :=
  match i with
  | .rdCtrl wdata => Sys2Proof.Machine.execRdCtrl wdata s
  | .wrCtrlStart wdata => Sys2Proof.Machine.execWrCtrlStart wdata s
  | .wrCtrlNop wdata => Sys2Proof.Machine.execWrCtrlNop wdata s
  | .rdConfig wdata => Sys2Proof.Machine.execRdConfig wdata s
  | .wrConfig wdata => Sys2Proof.Machine.execWrConfig wdata s
  | .rdStatus wdata => Sys2Proof.Machine.execRdStatus wdata s
  | .wrStatus wdata => Sys2Proof.Machine.execWrStatus wdata s
  | .rdFrameLo wdata => Sys2Proof.Machine.execRdFrameLo wdata s
  | .wrFrameLo wdata => Sys2Proof.Machine.execWrFrameLo wdata s
  | .rdFrameHi wdata => Sys2Proof.Machine.execRdFrameHi wdata s
  | .wrFrameHi wdata => Sys2Proof.Machine.execWrFrameHi wdata s
  | .rdCksum wdata => Sys2Proof.Machine.execRdCksum wdata s
  | .wrCksum wdata => Sys2Proof.Machine.execWrCksum wdata s
  | .rdHumidity wdata => Sys2Proof.Machine.execRdHumidity wdata s
  | .wrHumidity wdata => Sys2Proof.Machine.execWrHumidity wdata s
  | .rdTemperature wdata => Sys2Proof.Machine.execRdTemperature wdata s
  | .wrTemperature wdata => Sys2Proof.Machine.execWrTemperature wdata s
  | .rdPinerr wdata => Sys2Proof.Machine.execRdPinerr wdata s
  | .wrPinerr wdata => Sys2Proof.Machine.execWrPinerr wdata s
  | .rdRsvd9 wdata => Sys2Proof.Machine.execRdRsvd9 wdata s
  | .rdRsvd10 idx wdata => Sys2Proof.Machine.execRdRsvd10 idx wdata s
  | .rdRsvd12 idx wdata => Sys2Proof.Machine.execRdRsvd12 idx wdata s
  | .wrRsvd9 wdata => Sys2Proof.Machine.execWrRsvd9 wdata s
  | .wrRsvd10 idx wdata => Sys2Proof.Machine.execWrRsvd10 idx wdata s
  | .wrRsvd12 idx wdata => Sys2Proof.Machine.execWrRsvd12 idx wdata s
  | .pinSetLow => Sys2Proof.Machine.execPinSetLow s
  | .pinSetHigh => Sys2Proof.Machine.execPinSetHigh s
  | .pinIsHigh => Sys2Proof.Machine.execPinIsHigh s
  | .pinIsLow => Sys2Proof.Machine.execPinIsLow s
  | .phaseIdle => Sys2Proof.Machine.execPhaseIdle s
  | .phaseWakeLow => Sys2Proof.Machine.execPhaseWakeLow s
  | .phaseWakeHold => Sys2Proof.Machine.execPhaseWakeHold s
  | .phaseWakeRelease => Sys2Proof.Machine.execPhaseWakeRelease s
  | .phaseWakeSettle => Sys2Proof.Machine.execPhaseWakeSettle s
  | .phasePresHigh => Sys2Proof.Machine.execPhasePresHigh s
  | .phasePresLow => Sys2Proof.Machine.execPhasePresLow s
  | .phaseBitRise => Sys2Proof.Machine.execPhaseBitRise s
  | .phaseBitHigh => Sys2Proof.Machine.execPhaseBitHigh s
  | .phaseCheck => Sys2Proof.Machine.execPhaseCheck s
  | .phaseDecode => Sys2Proof.Machine.execPhaseDecode s
  | .phaseComplete => Sys2Proof.Machine.execPhaseComplete s

end Sys2Proof.Machine
end

