-- ==== Sys2Proof/Machine/Fetch.lean ====
section
/-! DEFINITION. Which operation a step runs: the agent that `turns` names moves (R69); the host brings
its request word, the controller's operation is the transaction that waits on its pin port, or else the
one its `phase` register names (R21, R39). -/

namespace Sys2Proof.Machine

/-- What a step finds to do. -/
inductive Fetched where
  /-- Run this operation from this state. -/
  | run (i : Instr) (s : State)
  /-- The platform resets the block. -/
  | reset (s : State)
  /-- The machine faults. -/
  | fault (r : Fault)
  /-- The machine refuses. -/
  | refused (r : Refusal)
deriving DecidableEq, Repr

/-- The controller's next operation: the transaction that waits on the port, else the phase. -/
def fetchController (s : State) : Fetched :=
  if s.port = 0 then
    match decode (.phase s.phase) with
    | .ok i => .run i s
    | .error _ => .fault (.reservedPhase s.phase)
  else
    match decode (.pin s.port) with
    | .ok i => .run i s
    | .error _ => .refused (.reservedPinOp s.port)

/-- The next operation, with the turn it uses up taken off the list. -/
def fetch (s : State) : Fetched :=
  if s.params.ok then
    match s.turns with
    | .host w :: ts => .run (decodeHbus w) { s with turns := ts }
    | .controller :: ts => fetchController { s with turns := ts }
    | .reset :: ts => .reset { s with turns := ts }
    | [] => fetchController s
  else .refused .configOutOfRange

/-- A phase that issues the op code: the present one where it does, else the first of R22's order. -/
def issuingPhase (op : BitVec 3) (phase : BitVec 4) : BitVec 4 :=
  match op.toNat with
  | 1 => phaseCode .wakeLow
  | 2 => phaseCode .wakeRelease
  | 3 => if phase = phaseCode .bitRise then phase else phaseCode .presHigh
  | 4 => if phase = phaseCode .bitHigh then phase else phaseCode .presLow
  | _ => phase

/-- The state with a word put where the next step fetches it: a host request at the head of `turns`, a
phase code in `phase`, an op code on the pin port (log 5). -/
def placeWord (s : State) : PortWord → State
  | .hbus w => { s with turns := .host w :: s.turns }
  | .phase w => { s with phase := w, port := 0, turns := .controller :: s.turns }
  | .pin w =>
    { s with port := w, phase := issuingPhase w s.phase, turns := .controller :: s.turns }

/-- `placeWord` for a word numbered as spec/opcode_table.json numbers it; a number that no word of its
format is changes nothing. -/
def placeTableWord (s : State) (nbits w : Nat) : State :=
  match wordOfNat (formatOfBits nbits) w with
  | .ok pw => placeWord s pw
  | .error _ => s

end Sys2Proof.Machine
end

