-- ==== Sys2Proof/Machine/Step.lean ====
section
/-! DEFINITION. One step of the machine: fetch and run (R69, R140). -/

namespace Sys2Proof.Machine

/-- One step: a host access, a controller step or a reset, as `turns` says. -/
def step (s : State) : Host.Outcome State Fault Refusal :=
  match fetch s with
  | .run i t => exec i t
  | .reset t => .next (resetBlock t)
  | .fault r => .fault r
  | .refused r => .refused r

/-- The state with an instruction stored where `step` fetches its next one. -/
def State.withFetchWord (s : State) (nbits w : Nat) : State := placeTableWord s nbits w

end Sys2Proof.Machine
end

