-- ==== Sys2Proof/Machine/Script.lean ====
section
/-! DEFINITION. The syntax of 30_encoding.md §5: host accesses and their HBUS words (R94), the
pseudo-instructions (R95) and the line scripts (R96). No meaning uses this file: it writes down inputs,
host requests for `turns` and answers for `line`. -/

namespace Sys2Proof.Machine

/-! ## Host syntax (R94, R95) -/

/-- REG of R94. -/
inductive HostReg where
  | ctrl | config | status | frameLo | frameHi | cksum | humidity | temperature | pinerr
  /-- `RSVD<n>`, n in 9..15. -/
  | rsvd (n : BitVec 4)
deriving DecidableEq, Repr

/-- The word index of a register (R61). -/
def HostReg.idx : HostReg → BitVec 4
  | .ctrl => 0
  | .config => 1
  | .status => 2
  | .frameLo => 3
  | .frameHi => 4
  | .cksum => 5
  | .humidity => 6
  | .temperature => 7
  | .pinerr => 8
  | .rsvd n => n

/-- `rd REG` (R94): WE = 0. The syntax gives no WDATA; 0 is written there, and no read looks at it. -/
def rdWord (r : HostReg) : BitVec 37 := hbusWord 0 r.idx 0

/-- `wr REG, imm` (R94): WE = 1. -/
def wrWord (r : HostReg) (imm : Word) : BitVec 37 := hbusWord 1 r.idx imm

/-- `start` (R95). -/
def pseudoStart : List (BitVec 37) := [wrWord .ctrl 1]

/-- `start.a` (R95). -/
def pseudoStartA : List (BitVec 37) := [wrWord .config 0, wrWord .ctrl 1]

/-- `start.b` (R95). -/
def pseudoStartB : List (BitVec 37) := [wrWord .config 1, wrWord .ctrl 1]

/-- The request that `wait.done` repeats (R95). -/
def waitDoneRequest : BitVec 37 := rdWord .status

/-- Whether the STATUS that was read ends `wait.done`: its bit 1 is DONE (R95). -/
def waitDoneEnds (rdata : Word) : Bool := rdata.getLsbD 1

/-- `result` (R95). -/
def pseudoResult : List (BitVec 37) :=
  [rdWord .status, rdWord .frameLo, rdWord .frameHi, rdWord .cksum, rdWord .humidity,
    rdWord .temperature, rdWord .pinerr]

/-- Host requests as turns, each next to the other with no controller step between. -/
def hostTurns (ws : List (BitVec 37)) : List Turn := ws.map Turn.host

/-! ## Line scripts (R96) -/

/-- The tokens of R96 that stand for one transaction or one poll. -/
inductive LineTok where
  /-- `S`: a set transaction returns `Ok`. -/
  | set
  /-- `S!p`: a set transaction returns `Err(p)`. -/
  | setErr (p : Word)
  /-- `P(k)`: k samples return `Ok(false)` and the next `Ok(true)`. -/
  | poll (k : Nat)
  /-- `P(-)`, for a poll of n samples: all of them return `Ok(false)`. -/
  | pollNever (n : Nat)
  /-- `P(k)!p`: k samples return `Ok(false)`, then the next `Err(p)`. -/
  | pollErr (k : Nat) (p : Word)
deriving DecidableEq, Repr

/-- The answers a token stands for. -/
def LineTok.replies : LineTok → List PinReply
  | .set => [.ok true]
  | .setErr p => [.err p]
  | .poll k => List.replicate k (.ok false) ++ [.ok true]
  | .pollNever n => List.replicate n (.ok false)
  | .pollErr k p => List.replicate k (.ok false) ++ [.err p]

/-- The answers a script stands for. -/
def scriptReplies (ts : List LineTok) : List PinReply := ts.flatMap LineTok.replies

/-- `b0` and `b1` of R96. -/
def scriptBit (b : Bool) : List LineTok := [.poll 50, .poll (if b then 68 else 24)]

/-- `B(x)` of R96: eight data bits, most significant first. -/
def scriptByte (x : Byte) : List LineTok :=
  [7, 6, 5, 4, 3, 2, 1, 0].flatMap fun k => scriptBit (x.getLsbD k)

/-- `B(x1 x2 ...)`. -/
def scriptBytes (xs : List Byte) : List LineTok := xs.flatMap scriptByte

end Sys2Proof.Machine
end

