-- ==== Sys2Proof/Safety.lean ====
section
/-! DEFINITION. What a safe state is: the invariants of R47, with what they need to be kept by every
step, and the invariants of the counters, the result registers, the partial frame and the line. Also runs
of several steps, what it means that a run is answered, the number of controller steps a read still has
(R250), and the frame that a stream of bits stands for (R165). -/

namespace Sys2Proof.Machine

/-! ## Runs -/

/-- `k` steps, stopping at the first fault or refusal. -/
def runFor : Nat → State → Host.Outcome State Fault Refusal
  | 0, s => .next s
  | k + 1, s =>
    match step s with
    | .next t => runFor k t
    | .fault r => .fault r
    | .refused r => .refused r

/-- The next `n` pin transactions are answered and the next `n` tick waits find their tick: the two
fairness premises of R250, for the listed inputs. -/
def Answered (n : Nat) (s : State) : Prop :=
  n ≤ s.line.length ∧ n ≤ s.ticks.length ∧ (∀ r ∈ s.line, r ≠ PinReply.silent) ∧ ∀ b ∈ s.ticks, b = true

/-! ## Classes of phases -/

/-- The phase is `p`. -/
abbrev State.at (s : State) (p : Phase) : Prop := s.phase = phaseCode p

/-- The phase is one of the four polls (R141). -/
abbrev polling (s : State) : Prop :=
  s.at .presHigh ∨ s.at .presLow ∨ s.at .bitRise ∨ s.at .bitHigh

/-- The number of samples of the poll that the phase is (R141, R147, R148, R161, R162); 0 elsewhere. -/
def pollBudget (s : State) : Nat :=
  if s.phase = phaseCode .presHigh then s.params.samples s.params.tPresHigh
  else if s.phase = phaseCode .presLow then s.params.samples s.params.tPresLow
  else if s.phase = phaseCode .bitRise then s.params.samples s.params.tRise
  else if s.phase = phaseCode .bitHigh then s.params.samples s.params.tHighCap
  else 0

/-- The error kind of a poll that exhausts its budget (R149). -/
def pollError (s : State) : ErrKind :=
  if s.phase = phaseCode .presHigh ∨ s.phase = phaseCode .presLow then .notPresent else .timeout

/-- The next turn is the controller's: it is listed, or the list is empty (log 4). -/
def controllerTurn (s : State) : Prop := s.turns = [] ∨ ∃ ts, s.turns = .controller :: ts

/-- The pin operation that a phase issues (R142, R143, R145); 000 for a phase that issues none. -/
def phaseOp (phase : BitVec 4) : BitVec 3 :=
  if phase = phaseCode .wakeLow then pinCode .setLow
  else if phase = phaseCode .wakeRelease then pinCode .setHigh
  else if phase = phaseCode .presHigh ∨ phase = phaseCode .bitRise then pinCode .isHigh
  else if phase = phaseCode .presLow ∨ phase = phaseCode .bitHigh then pinCode .isLow
  else 0

/-! ## Invariants -/

/-- The invariants (a) to (g) of R47. -/
structure R47 (s : State) : Prop where
  /-- (a) -/
  notBusyAndDone : ¬(busy s = true ∧ done s = true)
  /-- (b) -/
  validImplies : s.valid = 1 → s.at .complete ∧ s.err = 0 ∧ s.bitcnt = 40 ∧ s.ckv = 1 ∧
    s.cksumReceived = s.cksumCalc ∧ humidityInRange s.humidity = true
  /-- (c) -/
  errImplies : s.err ≠ 0 → s.at .complete ∧ s.valid = 0
  /-- (d) -/
  completeWithoutErr : s.at .complete → s.err = 0 → s.valid = 1
  /-- (e) -/
  bitcntBound : s.bitcnt.toNat ≤ 40
  /-- (f) -/
  mismatchImplies : s.err = 2 → s.ckv = 1 ∧ s.cksumReceived ≠ s.cksumCalc
  /-- (g) -/
  pinopIff : s.pinop ≠ 0 ↔ s.err = 5

/-- R47 with what it needs to be kept by every step: a legal configuration (R10), legal phase and error
codes (R87, R88, R90), a transaction on the port only where the phase issues it, a tick wait only in a
poll, and the bit count and CKSUM that each phase starts from (R22). -/
structure Sound (s : State) : Prop where
  r47 : R47 s
  paramsOk : s.params.ok = true
  phaseLegal : s.phase.toNat ≤ 11
  errLegal : s.err.toNat ≤ 5
  portIssued : s.port ≠ 0 → s.port = phaseOp s.phase
  tickWaitInPoll : s.awaitTick = true → polling s ∧ s.port = 0
  noBitsBeforeLoop : s.phase.toNat ≤ 6 → s.bitcnt = 0
  loopBits : s.at .bitRise ∨ s.at .bitHigh → s.bitcnt.toNat < 40
  checkBits : s.at .check ∨ s.at .decode → s.bitcnt = 40
  decodeChecked : s.at .decode → s.ckv = 1 ∧ s.cksumReceived = s.cksumCalc
  checkNotRunYet : s.phase.toNat ≤ 9 → s.ckv = 0

/-- The counters stay within their budgets (R37, R141, R144, R146). -/
structure WithinBudget (s : State) : Prop where
  poll : polling s → s.ecnt.toNat < pollBudget s
  hold : s.at .wakeHold → 1 ≤ s.dcnt.toNat ∧ s.dcnt.toNat ≤ s.params.tWakeLow
  settle : s.at .wakeSettle → 1 ≤ s.dcnt.toNat ∧ s.dcnt.toNat ≤ s.params.tWakeRel

/-- What the result registers mean (R33 to R36, R180, R187, R190, R217). -/
structure ResultMeans (s : State) : Prop where
  /-- CKSUM holds the received byte and the sum of this frame, once CHECK ran; 0 before. -/
  cksum : (s.ckv = 1 → s.cksumReceived = frameByte s.frame 4 ∧ s.cksumCalc = checksum s.frame) ∧
    (s.ckv = 0 → s.cksumReceived = 0 ∧ s.cksumCalc = 0)
  /-- VALID: the Reading is the latched variant's decoding of this frame. -/
  reading : s.valid = 1 → (s.humidity, s.temperature) = decodeFrame s.lvar s.frame
  /-- Without VALID both values read 0. -/
  noReading : s.valid = 0 → s.humidity = 0 ∧ s.temperature = 0
  /-- InvalidData: the checksum passed and the decoded humidity is out of range. -/
  invalidData : s.err = 3 →
    s.ckv = 1 ∧ s.cksumReceived = s.cksumCalc ∧ humidityInRange (decodeFrame s.lvar s.frame).1 = false
  /-- A payload stands only with PinError. -/
  payload : s.pinerr ≠ 0 → s.err = 5
  /-- Where each error kind can stand (R210): NotPresent before the first bit, Timeout inside the loop. -/
  errBits : (s.err = 1 → s.bitcnt = 0 ∧ s.ckv = 0) ∧ (s.err = 4 → s.bitcnt.toNat < 40 ∧ s.ckv = 0)

/-- The bits not yet received read as 0, each in its final place (R164, R167). -/
def PartialFrame (s : State) : Prop := ∀ i, s.bitcnt.toNat ≤ i → i < 40 → s.frame.getLsbD (39 - i) = false

/-- What the line was last told, by phase (R38, R166, R218). -/
structure LineTold (s : State) : Prop where
  low : s.at .wakeHold ∨ s.at .wakeRelease → s.lineCmd = .low
  high : 4 ≤ s.phase.toNat → s.phase.toNat ≤ 10 → s.lineCmd = .high

/-! ## The length of a read (R249, R250) -/

/-- The controller steps of 40 bits and the two steps after them, at most. -/
def bitSteps (p : Params) (bits : Nat) : Nat := bits * (p.samples p.tRise + p.samples p.tHighCap) + 2

/-- The bound of R250 on the controller steps of one read. -/
def readBound (p : Params) : Nat :=
  2 + p.tWakeLow + p.tWakeRel + p.samples p.tPresHigh + p.samples p.tPresLow +
    40 * (p.samples p.tRise + p.samples p.tHighCap) + 2

/-- How many controller steps the read in progress still has, at most. -/
def stepsLeft (s : State) : Nat :=
  let p := s.params
  let left := pollBudget s - s.ecnt.toNat
  match s.phase.toNat with
  | 1 => readBound p
  | 2 => s.dcnt.toNat + 1 + p.tWakeRel + p.samples p.tPresHigh + p.samples p.tPresLow + bitSteps p 40
  | 3 => 1 + p.tWakeRel + p.samples p.tPresHigh + p.samples p.tPresLow + bitSteps p 40
  | 4 => s.dcnt.toNat + p.samples p.tPresHigh + p.samples p.tPresLow + bitSteps p 40
  | 5 => left + p.samples p.tPresLow + bitSteps p 40
  | 6 => left + bitSteps p 40
  | 7 => left + p.samples p.tHighCap + bitSteps p (39 - s.bitcnt.toNat)
  | 8 => left + bitSteps p (39 - s.bitcnt.toNat)
  | 9 => 2
  | 10 => 1
  | _ => 0

/-! ## Streams of bits (R160 to R165) -/

/-- The shift form of R165: the number that a 40-bit register holds when each bit enters at bit 0. -/
def streamFrame (bits : List Bool) : BitVec 40 :=
  bits.foldl (fun f b => (f <<< 1) ||| (BitVec.ofBool b).setWidth 40) 0

/-- The bit a high count gives (R163). -/
def pulseBit (p : Params) (high : Nat) : Bool := decide (p.tThresh < high)

/-- The script of one data bit: a rise count and a high count (R96, R160). -/
def pulseScript (pulse : Nat × Nat) : List LineTok := [.poll pulse.1, .poll pulse.2]

/-- The script of a stream of pulses. -/
def pulsesScript (pulses : List (Nat × Nat)) : List LineTok := pulses.flatMap pulseScript

/-- The ticks that a stream of pulses takes: one per failed sample. -/
def pulsesTicks (pulses : List (Nat × Nat)) : Nat := (pulses.map fun q => q.1 + q.2).sum

/-- The controller steps, and the transactions, that a stream of pulses takes (R249). -/
def pulsesSteps (pulses : List (Nat × Nat)) : Nat := (pulses.map fun q => q.1 + q.2 + 2).sum

/-- Every count of a stream is one at which its poll succeeds (R141). -/
def pulsesFit (p : Params) (pulses : List (Nat × Nat)) : Prop :=
  ∀ q ∈ pulses, q.1 < p.samples p.tRise ∧ q.2 < p.samples p.tHighCap

/-! ## The shapes of the phase rules

What a rule with a pin transaction says of one step, in numbers of its own: the codes of R85, R87 and R88
stand as written there. -/

/-- One answer of the line is taken and no transaction is left on the port (R39). -/
def answered (s : State) : State :=
  { s with line := s.line.tail, lineDraws := s.lineDraws + 1, port := 0 }

/-- One tick is taken (R40). -/
def ticked (s : State) : State := { s with ticks := s.ticks.tail, tickDraws := s.tickDraws + 1 }

/-- What `raise PinError(p, op)` leaves (R215, R217): ERR 5, VALID 0, PINERR the zero-extended payload,
PINOP the op code, phase COMPLETE. -/
def pinErrored (op : BitVec 3) (p : Word) (s : State) : State :=
  { s with
    err := 5, valid := 0, pinerr := BitVec.ofNat 32 (p.toNat % 2 ^ s.params.pinErrW), pinop := op,
    phase := 11 }

/-- What any other `raise` leaves (R217): ERR the code, VALID 0, phase COMPLETE. -/
def errored (code : BitVec 3) (s : State) : State := { s with err := code, valid := 0, phase := 11 }

/-- What an accepted START leaves (R112). -/
def started (s : State) : State :=
  { s with
    lvar := s.variant, frame := 0, bitcnt := 0, valid := 0, err := 0, pinop := 0, pinerr := 0,
    cksumReceived := 0, cksumCalc := 0, ckv := 0, humidity := 0, temperature := 0, ecnt := 0,
    dcnt := 0, phase := 1 }

/-- The reset values of R44. -/
structure AtResetValues (s : State) : Prop where
  control : s.phase = 0 ∧ s.lvar = 0 ∧ s.variant = 0
  status : s.valid = 0 ∧ s.err = 0 ∧ s.bitcnt = 0 ∧ s.pinop = 0 ∧ busy s = false ∧ done s = false
  frame : s.frame = 0
  cksum : s.cksumReceived = 0 ∧ s.cksumCalc = 0 ∧ s.ckv = 0
  results : s.humidity = 0 ∧ s.temperature = 0 ∧ s.pinerr = 0
  counters : s.ecnt = 0 ∧ s.dcnt = 0
  line : s.lineCmd = .unset

/-- A step that issues a set transaction: `success` on `Ok`, PinError on `Err(p)`. -/
def SetStepMeans (i : Instr) (when : State → Prop) (op : BitVec 3) (success : State → State) : Prop :=
  ∀ s, when s →
    (∀ b, nextReply s = .ok b → exec i s = .next (success (answered s))) ∧
    (∀ p, nextReply s = .err p → exec i s = .next (pinErrored op p (answered s)))

/-- A step of a poll (R141): `success` on `Ok(true)`; on `Ok(false)` one tick and one more on the count,
and the poll's error at the last of its N samples; PinError on `Err(p)`. -/
def PollStepMeans (i : Instr) (when : State → Prop) (op : BitVec 3) (budget : Params → Nat)
    (code : BitVec 3) (success : State → State) : Prop :=
  ∀ s, when s →
    (nextReply s = .ok true → exec i s = .next (success (answered s))) ∧
    (nextReply s = .ok false → nextTick s = true →
      s.ecnt.toNat + 1 ≠ budget s.params + (if s.params.pollInclusive then 1 else 0) →
      exec i s = .next { ticked (answered s) with ecnt := s.ecnt + 1, awaitTick := false }) ∧
    (nextReply s = .ok false → nextTick s = true →
      s.ecnt.toNat + 1 = budget s.params + (if s.params.pollInclusive then 1 else 0) →
      exec i s =
        .next (errored code { ticked (answered s) with ecnt := s.ecnt + 1, awaitTick := false })) ∧
    (∀ p, nextReply s = .err p → exec i s = .next (pinErrored op p (answered s)))

/-- What each phase does on success, in the codes of R87. -/
def wakeLowSuccess (s : State) : State :=
  { s with lineCmd := .low, dcnt := BitVec.ofNat 16 s.params.tWakeLow, phase := 2 }

/-- R145. -/
def wakeReleaseSuccess (s : State) : State :=
  { s with lineCmd := .high, dcnt := BitVec.ofNat 16 s.params.tWakeRel, phase := 4 }

/-- R147, R148, R161: the elapsed count is discarded and the next phase begins. -/
def pollSuccess (next : BitVec 4) (s : State) : State := { s with ecnt := 0, phase := next }

/-- R162, R163: the bit is 1 when the elapsed count exceeds T_THRESH. -/
def bitHighSuccess (s : State) : State :=
  { s with
    frame := storeFrameBit s.frame s.bitcnt.toNat (if s.params.tThresh < s.ecnt.toNat then 1 else 0),
    bitcnt := s.bitcnt + 1, ecnt := 0, phase := if s.bitcnt + 1 = 40 then 9 else 7 }

/-- Bit i of the stream, where R64 says it lies: in byte i / 8 at position 7 - (i mod 8). -/
def streamBit (f : BitVec 40) (i : Nat) : Bool := (frameByte f (i / 8)).getLsbD (7 - i % 8)

/-- How far the value of a finite pattern is from n tenths, in tenths of the unit 2^-149. -/
def tenthsError (n : BitVec 16) (z : Word) : Nat :=
  ((f32Units z : Int) * 10 - (n.toNat : Int) * 2 ^ 149).natAbs

end Sys2Proof.Machine
end

