-- ==== Sys2Proof/Certificates/Slice0/Obligations.lean ====
section
/-! DEFINITION. The statements about the block, one per obligation; each docstring names the rules of spec/
it formalises. -/

open Sys2Proof Sys2Proof.Machine

/-- Reset leaves every register at the value of R44 (R44). -/
def Obligations.ResetLeavesTheResetValues : Prop :=
  AtResetValues State.reset ∧
  ∀ s ts, s.params.ok = true → s.turns = .reset :: ts → ∃ t, step s = .next t ∧ AtResetValues t

/-- The reset state meets every invariant, and every slot of the window reads 0 (R44, R47, R240). -/
def Obligations.ResetMeetsTheInvariants : Prop :=
  Sound State.reset ∧ WithinBudget State.reset ∧ ResultMeans State.reset ∧
  PartialFrame State.reset ∧ LineTold State.reset ∧ ∀ idx, readSlot State.reset idx = 0

/-- A step runs the instruction decoded from the turn, the port or the phase (R21, R39, R69). -/
def Obligations.StepRunsTheDecodedInstruction : Prop :=
  ∀ s, s.params.ok = true →
    (∀ w ts, s.turns = .host w :: ts → step s = exec (decodeHbus w) { s with turns := ts }) ∧
    (∀ i, s.port = 0 ∧ decodePhase s.phase = .ok i ∨ s.port ≠ 0 ∧ decodePin s.port = .ok i →
      (s.turns = [] → step s = exec i s) ∧
      ∀ ts, s.turns = .controller :: ts → step s = exec i { s with turns := ts })

/-- The model's stops (log 16): a step stops exactly on a bad configuration, a reserved phase code or a
reserved op code on the port. R10, R90 and 93_implementation_defined.md let a model refuse or fault there
and do not ask for it; that it does, and that a bad configuration is refused at every step, host accesses
included, is the model's choice. -/
def Obligations.StepStopsExactlyOnReservedCodesAndBadConfigurations : Prop :=
  ∀ s,
    (∀ r, step s = .fault r ↔
      s.params.ok = true ∧ controllerTurn s ∧ s.port = 0 ∧ 12 ≤ s.phase.toNat ∧
        r = .reservedPhase s.phase) ∧
    (∀ r, step s = .refused r ↔
      s.params.ok = false ∧ r = .configOutOfRange ∨
      s.params.ok = true ∧ controllerTurn s ∧ 5 ≤ s.port.toNat ∧ r = .reservedPinOp s.port)

/-- From a sound state every step answers a next state (R47, R91, R216). -/
def Obligations.SoundStatesNeverStop : Prop :=
  ∀ s, Sound s → ∃ t, step s = .next t

/-- Decoding the encoding of a well-formed instruction gives it back (R81, R82, R85, R87). -/
def Obligations.DecodeOfEncodeIsTheInstruction : Prop :=
  ∀ i : Instr, i.wf = true → decode (encode i) = .ok i

/-- Encoding what a word decodes to gives the word back (R81, R82, R85, R87). -/
def Obligations.EncodeOfDecodeIsTheWord : Prop :=
  ∀ (w : PortWord) (i : Instr), decode w = .ok i → i.wf = true ∧ encode i = w

/-- Every 37-bit request word is of exactly one HBUS row, the decoded instruction's (R81, R82). -/
def Obligations.EveryRequestWordIsOfExactlyOneRow : Prop :=
  ∀ (w : BitVec 37) (k : Nat), isOfRow w k = true ↔ hbusRow (decodeHbus w) = some k

/-- Exactly the reserved PIN and PHASE codes are rejected, by name (R85, R87, R90). -/
def Obligations.ReservedCodesAreRejected : Prop :=
  (∀ w : BitVec 3, decodePin w = .error (.reservedPin w) ↔ w = 0 ∨ 5 ≤ w.toNat) ∧
  (∀ w : BitVec 4, decodePhase w = .error (.reservedPhase w) ↔ 12 ≤ w.toNat)

/-- Words that the spec writes out decode to their instructions (R82, R85, R87, 95_test_vectors.md
§2.1). -/
def Obligations.WordsOfTheSpecDecode : Prop :=
  decode (.hbus 0x1000000003) = .ok (.wrCtrlStart 0x3) ∧
  decode (.hbus 0x10FFFFFFFE) = .ok (.wrCtrlNop 0xFFFFFFFE) ∧
  decode (.hbus 0x01DEADBEEF) = .ok (.rdConfig 0xDEADBEEF) ∧
  decode (.hbus 0x1FFFFFFFFF) = .ok (.wrRsvd12 15 0xFFFFFFFF) ∧
  decode (.pin 0b100) = .ok .pinIsLow ∧ decode (.phase 0xA) = .ok .phaseDecode

/-- RD.CTRL and RD.RSVD give 0 and change nothing (R111, R130). -/
def Obligations.CtrlAndReservedSlotsReadZero : Prop :=
  ∀ (s : State) (d : Word) (idx : BitVec 4), ∀ i ∈ [Instr.rdCtrl d, .rdRsvd9 d, .rdRsvd10 idx d, .rdRsvd12 idx d],
    exec i s = .next { s with rdata := 0 }

/-- RD.CONFIG gives VARIANT zero-extended and changes nothing (R114). -/
def Obligations.ConfigReadsTheVariant : Prop :=
  ∀ (s : State) (d : Word),
    exec (.rdConfig d) s = .next { s with rdata := if s.variant = 1 then 1 else 0 }

/-- RD.STATUS gives every field in its place, reserved bits 0, and changes nothing (R116). -/
def Obligations.StatusReadsItsFields : Prop :=
  (∀ (s : State) (d : Word), ∃ w : Word, exec (.rdStatus d) s = .next { s with rdata := w } ∧
    w.getLsbD 0 = decide (s.phase ≠ 0 ∧ s.phase ≠ 11) ∧ w.getLsbD 1 = decide (s.phase = 11) ∧
    w.extractLsb' 2 1 = s.valid ∧ w.extractLsb' 3 1 = 0 ∧ w.extractLsb' 4 3 = s.err ∧
    w.extractLsb' 7 1 = 0 ∧ w.extractLsb' 8 6 = s.bitcnt ∧ w.extractLsb' 14 2 = 0 ∧
    w.extractLsb' 16 1 = s.lvar ∧ w.extractLsb' 17 3 = 0 ∧ w.extractLsb' 20 3 = s.pinop ∧
    w.extractLsb' 23 1 = 0 ∧ w.extractLsb' 24 4 = s.phase ∧ w.extractLsb' 28 4 = 0) ∧
  statusWord State.reset = 0

/-- RD.FRAME_LO and RD.FRAME_HI give the frame in arrival order and change nothing (R118, R119). -/
def Obligations.FrameReadsInArrivalOrder : Prop :=
  ∀ (s : State) (d : Word),
    (∃ w : Word, exec (.rdFrameLo d) s = .next { s with rdata := w } ∧
      w.extractLsb' 24 8 = frameByte s.frame 0 ∧ w.extractLsb' 16 8 = frameByte s.frame 1 ∧
      w.extractLsb' 8 8 = frameByte s.frame 2 ∧ w.extractLsb' 0 8 = frameByte s.frame 3 ∧
      ∀ i < 32, w.getLsbD (31 - i) = streamBit s.frame i) ∧
    (∃ w : Word, exec (.rdFrameHi d) s = .next { s with rdata := w } ∧
      w.extractLsb' 0 8 = frameByte s.frame 4 ∧ w.extractLsb' 8 24 = 0)

/-- RD.CKSUM gives RECEIVED, CALC and CKV in their places and changes nothing (R120). -/
def Obligations.CksumReadsItsFields : Prop :=
  (∀ (s : State) (d : Word), ∃ w : Word, exec (.rdCksum d) s = .next { s with rdata := w } ∧
    w.extractLsb' 0 8 = s.cksumReceived ∧ w.extractLsb' 8 8 = s.cksumCalc ∧
    w.extractLsb' 16 1 = s.ckv ∧ w.extractLsb' 17 15 = 0) ∧
  (∀ s, ResultMeans s → s.ckv = 0 → cksumWord s = 0)

/-- RD.HUMIDITY, RD.TEMPERATURE and RD.PINERR give their registers and change nothing (R121, R122,
R123). -/
def Obligations.ResultRegistersReadThemselves : Prop :=
  (∀ (s : State) (d : Word),
    exec (.rdHumidity d) s = .next { s with rdata := s.humidity } ∧
    exec (.rdTemperature d) s = .next { s with rdata := s.temperature } ∧
    exec (.rdPinerr d) s = .next { s with rdata := s.pinerr }) ∧
  (∀ s, ResultMeans s → s.valid ≠ 1 → s.humidity = 0)

/-- The writes that have no effect change nothing (R113, R117, R124, R125, R126, R127, R128, R129,
R131). -/
def Obligations.IgnoredWritesChangeNothing : Prop :=
  ∀ (s : State) (d : Word) (idx : BitVec 4),
    ∀ i ∈ [Instr.wrCtrlNop d, .wrStatus d, .wrFrameLo d, .wrFrameHi d, .wrCksum d, .wrHumidity d,
        .wrTemperature d, .wrPinerr d, .wrRsvd9 d, .wrRsvd10 idx d, .wrRsvd12 idx d],
      exec i s = .next s

/-- WR.CONFIG sets VARIANT from WDATA[0] while idle and is dropped while BUSY (R115). -/
def Obligations.ConfigWriteSetsTheVariantUnlessBusy : Prop :=
  ∀ (s : State) (d : Word),
    (s.phase = 0 ∨ s.phase = 11 →
      exec (.wrConfig d) s = .next { s with variant := if d.getLsbD 0 then 1 else 0 }) ∧
    (s.phase ≠ 0 → s.phase ≠ 11 → exec (.wrConfig d) s = .next s)

/-- WR.CTRL.START clears the last read and enters WAKE_LOW, and is dropped while BUSY (R112). -/
def Obligations.StartBeginsAReadUnlessBusy : Prop :=
  (∀ (s : State) (d : Word), s.phase = 0 ∨ s.phase = 11 →
    exec (.wrCtrlStart d) s = .next (started s) ∧ exec (.wrCtrlStart d) (started s) = .next (started s)) ∧
  (∀ (s : State) (d : Word), s.phase ≠ 0 → s.phase ≠ 11 → exec (.wrCtrlStart d) s = .next s) ∧
  statusWord (started State.reset) = 0x01000001

/-- A host read, in any state, gives its slot of the window and changes nothing else, and while BUSY no
write changes anything (R61, R66, R67, R112, R115). That RDATA stands until the next read, a write
leaving it, is the model's choice (log 6). -/
def Obligations.HostAccessWhileBusyChangesOnlyRdata : Prop :=
  ∀ (s : State) (w : BitVec 37),
    (hbusWE w = 0 → exec (decodeHbus w) s = .next { s with rdata := readSlot s (hbusIDX w) }) ∧
    (hbusWE w = 1 → busy s = true → exec (decodeHbus w) s = .next s)

/-- A host read before or after a controller step leaves the same state but for RDATA (R66, R67). -/
def Obligations.HostReadsCommuteWithControllerSteps : Prop :=
  ∀ (s : State) (w : BitVec 37) (t : State), hbusWE w = 0 →
    runFor 2 { s with turns := [.host w, .controller] } = .next t →
    ∃ u, runFor 2 { s with turns := [.controller, .host w] } = .next u ∧
      { t with rdata := 0 } = { u with rdata := 0 }

/-- Once DONE, every slot but CONFIG keeps its value until START or reset (R70). -/
def Obligations.ResultsStayUntilTheNextStart : Prop :=
  ∀ s t, Sound s → s.phase = 11 → (∀ ts, s.turns ≠ .reset :: ts) →
    (∀ w ts d, s.turns = .host w :: ts → decodeHbus w ≠ .wrCtrlStart d) → step s = .next t →
    t.phase = 11 ∧ (∀ idx, idx ≠ 1 → readSlot t idx = readSlot s idx) ∧
    (readSlot t 1 ≠ readSlot s 1 → ∃ w ts d, s.turns = .host w :: ts ∧ decodeHbus w = .wrConfig d)

/-- CONFIG written while idle is what the next START latches (R69, R94, R95, R243). -/
def Obligations.ConfigThenStartUsesTheNewVariant : Prop :=
  ∀ (s : State) (v : Word) (ts : List Turn), s.params.ok = true → busy s = false →
    s.turns = hostTurns [wrWord .config v, wrWord .ctrl 1] ++ ts →
    ∃ t, runFor 2 s = .next t ∧ t.phase = 1 ∧ t.lvar = v.extractLsb' 0 1 ∧
      t.variant = v.extractLsb' 0 1 ∧ t.turns = ts

/-- WAKE_LOW and WAKE_RELEASE: set the line, load the delay, or record PinError (R143, R145). -/
def Obligations.WakeSetPhases : Prop :=
  SetStepMeans .phaseWakeLow (fun _ => True) 1 wakeLowSuccess ∧
  SetStepMeans .phaseWakeRelease (fun _ => True) 2 wakeReleaseSuccess

/-- WAKE_HOLD and WAKE_SETTLE: one tick down, and the next phase at 0 (R144, R146). -/
def Obligations.DelayPhasesCountOneTick : Prop :=
  (∀ s, nextTick s = true →
    exec .phaseWakeHold s =
      .next { ticked s with dcnt := s.dcnt - 1, phase := if s.dcnt = 1 then 3 else s.phase } ∧
    exec .phaseWakeSettle s =
      .next { ticked s with
        dcnt := s.dcnt - 1, ecnt := if s.dcnt = 1 then 0 else s.ecnt,
        phase := if s.dcnt = 1 then 5 else s.phase }) ∧
  (∀ (s : State) (n : Nat) (rest : List Bool), s.params.ok = true → s.turns = [] → s.port = 0 →
    1 ≤ n → s.dcnt.toNat = n → s.ticks = List.replicate n true ++ rest →
    (s.phase = 2 → runFor n s =
      .next { s with dcnt := 0, phase := 3, ticks := rest, tickDraws := s.tickDraws + n }) ∧
    (s.phase = 4 → runFor n s =
      .next { s with dcnt := 0, ecnt := 0, phase := 5, ticks := rest, tickDraws := s.tickDraws + n }))

/-- PRES_HIGH and PRES_LOW: one step of their polls (R147, R148).
The count an exhausted poll leaves is that of R141's line `ecnt <- ecnt + 1` (log 10). -/
def Obligations.PresencePolls : Prop :=
  PollStepMeans .phasePresHigh (fun s => s.awaitTick = false) 3 (·.tPresHigh) 1 (pollSuccess 6) ∧
  PollStepMeans .phasePresLow (fun s => s.awaitTick = false) 4 (·.tPresLow) 1 (pollSuccess 7)

/-- BIT_RISE: one step of its poll (R161).
The count an exhausted poll leaves is that of R141's line `ecnt <- ecnt + 1` (log 10). -/
def Obligations.BitRisePoll : Prop :=
  PollStepMeans .phaseBitRise (fun s => s.awaitTick = false) 3 (·.tRise) 4 (pollSuccess 8)

/-- BIT_HIGH: one step of its poll, storing the classified bit on success (R162, R163).
The count an exhausted poll leaves is that of R141's line `ecnt <- ecnt + 1` (log 10). -/
def Obligations.BitHighPollStoresTheClassifiedBit : Prop :=
  PollStepMeans .phaseBitHigh (fun s => s.awaitTick = false) 4 (·.tHighCap) 4 bitHighSuccess ∧
  (∀ p e, classify p e = if p.tThresh < e.toNat then 1 else 0) ∧
  (∀ e : BitVec 16, classify Params.default e = if e.toNat ≤ 30 then 0 else 1)

/-- Storing stream bit i ORs byte i / 8 at bit 7 - (i mod 8) and no other bit (R64, R164). -/
def Obligations.AssemblerPlacesExactlyOneBit : Prop :=
  ∀ (f : BitVec 40) (b : BitVec 1) (i j : Nat), i < 40 → j < 40 →
    streamBit (storeFrameBit f i b) j =
      if j = i then streamBit f j || b.getLsbD 0 else streamBit f j

/-- A pin transaction that waited finishes the step of the phase that issued it (R39, R86, R141, R143,
R145, R162).
The count an exhausted poll leaves is that of R141's line `ecnt <- ecnt + 1` (log 10). -/
def Obligations.PinTransactionsFinishTheirPhase : Prop :=
  SetStepMeans .pinSetLow (·.phase = 1) 1 wakeLowSuccess ∧
  SetStepMeans .pinSetHigh (·.phase = 3) 2 wakeReleaseSuccess ∧
  PollStepMeans .pinIsHigh (·.phase = 5) 3 (·.tPresHigh) 1 (pollSuccess 6) ∧
  PollStepMeans .pinIsHigh (·.phase = 7) 3 (·.tRise) 4 (pollSuccess 8) ∧
  PollStepMeans .pinIsLow (·.phase = 6) 4 (·.tPresLow) 1 (pollSuccess 7) ∧
  PollStepMeans .pinIsLow (·.phase = 8) 4 (·.tHighCap) 4 bitHighSuccess ∧
  SetStepMeans .pinSetLow (·.phase ≠ 1) 1 (fun s => { s with lineCmd := .low }) ∧
  SetStepMeans .pinSetHigh (·.phase ≠ 3) 2 (fun s => { s with lineCmd := .high }) ∧
  SetStepMeans .pinIsHigh (fun s => s.phase ≠ 5 ∧ s.phase ≠ 7) 3 id ∧
  SetStepMeans .pinIsLow (fun s => s.phase ≠ 6 ∧ s.phase ≠ 8) 4 id

/-- An unanswered transaction stays on the port and a missing tick is waited for (R39, R40, R250).
The count an exhausted poll leaves is that of R141's line `ecnt <- ecnt + 1` (log 10). -/
def Obligations.WaitsChangeNothingButTheWait : Prop :=
  (∀ s, nextReply s = .silent →
    (∀ q ∈ [(Instr.phaseWakeLow, 1#3), (.phaseWakeRelease, 2), (.pinSetLow, 1), (.pinSetHigh, 2),
        (.pinIsHigh, 3), (.pinIsLow, 4)], exec q.1 s = .next { answered s with port := q.2 }) ∧
    (s.awaitTick = false →
      ∀ q ∈ [(Instr.phasePresHigh, 3#3), (.phasePresLow, 4), (.phaseBitRise, 3), (.phaseBitHigh, 4)],
        exec q.1 s = .next { answered s with port := q.2 })) ∧
  (∀ s, nextTick s = false →
    exec .phaseWakeHold s = .next (ticked s) ∧ exec .phaseWakeSettle s = .next (ticked s) ∧
    ∀ i ∈ [Instr.phasePresHigh, .phasePresLow, .phaseBitRise, .phaseBitHigh],
      (s.awaitTick = true → exec i s = .next (ticked s)) ∧
      (s.awaitTick = false → nextReply s = .ok false →
        exec i s = .next { ticked (answered s) with awaitTick := true })) ∧
  (∀ s, nextTick s = true → s.awaitTick = true →
    ∀ q ∈ [(Instr.phasePresHigh, s.params.tPresHigh, 1#3), (.phasePresLow, s.params.tPresLow, 1),
        (.phaseBitRise, s.params.tRise, 4), (.phaseBitHigh, s.params.tHighCap, 4)],
      let t := { ticked s with ecnt := s.ecnt + 1, awaitTick := false }
      exec q.1 s =
        .next (if s.ecnt.toNat + 1 = q.2.1 + (if s.params.pollInclusive then 1 else 0)
          then errored q.2.2 t else t))

/-- An answer or a tick that comes one turn late has the effect of a prompt one (R39, R40, R75, R250). -/
def Obligations.LateAnswersActAsPromptOnes : Prop :=
  (∀ (s : State) (r : PinReply) (rest : List PinReply), Sound s → s.turns = [] → s.port = 0 →
    s.awaitTick = false → phaseOp s.phase ≠ 0 → s.line = .silent :: r :: rest →
    runFor 2 s = runFor 1 { s with line := r :: rest, lineDraws := s.lineDraws + 1 }) ∧
  (∀ (s : State) (rest : List Bool), Sound s → s.turns = [] → s.port = 0 → s.awaitTick = false →
    s.phase = 2 ∨ s.phase = 4 ∨ polling s ∧ nextReply s = .ok false → s.ticks = false :: true :: rest →
    runFor 2 s = runFor 1 { s with ticks := true :: rest, tickDraws := s.tickDraws + 1 })

/-- A port that never answers holds the block in its phase, however long (R212, R250). -/
def Obligations.AnUnansweredPortHangsTheBlock : Prop :=
  ∀ (s : State) (n : Nat) (rest : List PinReply), Sound s → s.turns = [] → s.awaitTick = false →
    phaseOp s.phase ≠ 0 → 1 ≤ n → s.line = List.replicate n .silent ++ rest →
    runFor n s =
      .next { s with line := rest, lineDraws := s.lineDraws + n, port := phaseOp s.phase }

/-- IDLE and COMPLETE change nothing (R150, R230; a controller turn there is log 14). -/
def Obligations.IdleAndCompleteAreQuiescent : Prop :=
  (∀ s, exec .phaseIdle s = .next s ∧ exec .phaseComplete s = .next s) ∧
  (∀ s, Sound s → s.turns = [] → s.phase = 0 ∨ s.phase = 11 → step s = .next s)

/-- CHECK: write CKSUM on both paths, then go to DECODE or end with ChecksumMismatch (R180). -/
def Obligations.CheckComparesTheSumModulo256 : Prop :=
  ∀ s, ∃ c : Byte,
    c.toNat = ((frameByte s.frame 0).toNat + (frameByte s.frame 1).toNat +
      (frameByte s.frame 2).toNat + (frameByte s.frame 3).toNat) % 256 ∧
    (frameByte s.frame 4 = c → exec .phaseCheck s =
      .next { s with cksumReceived := frameByte s.frame 4, cksumCalc := c, ckv := 1, phase := 10 }) ∧
    (frameByte s.frame 4 ≠ c → exec .phaseCheck s =
      .next (errored 2 { s with cksumReceived := frameByte s.frame 4, cksumCalc := c, ckv := 1 }))

/-- DECODE: a Reading when the humidity is in range, else InvalidData (R187). -/
def Obligations.DecodePhaseSucceedsOrRejects : Prop :=
  ∀ s,
    let b := frameByte s.frame
    let r := if s.lvar = 0 then decodeA (b 0) (b 1) (b 2) (b 3) else decodeB (b 0) (b 1) (b 2) (b 3)
    ((f32Le 0 r.1 && f32Le r.1 0x42C80000) = true → exec .phaseDecode s =
      .next { s with humidity := r.1, temperature := r.2, valid := 1, phase := 11 }) ∧
    ((f32Le 0 r.1 && f32Le r.1 0x42C80000) = false → exec .phaseDecode s = .next (errored 3 s))

/-- Variant A gives bytes 0 and 2 as exact nonnegative binary32 values, and conversion is exact (R16,
R183). -/
def Obligations.VariantADecodesBytesExactly : Prop :=
  (∀ n < 2 ^ 24, f32Units (f32OfNat n) = n * 2 ^ 149 ∧ (f32OfNat n).toNat < 0x7F800000) ∧
  (∀ b0 b1 b2 b3 : Byte,
    f32Units (decodeA b0 b1 b2 b3).1 = b0.toNat * 2 ^ 149 ∧
    f32Units (decodeA b0 b1 b2 b3).2 = b2.toNat * 2 ^ 149 ∧
    ((decodeA b0 b1 b2 b3).1.getLsbD 31 || (decodeA b0 b1 b2 b3).2.getLsbD 31) = false)

/-- Variant B: humidity in tenths, temperature as sign and magnitude in tenths (R184, R185). -/
def Obligations.VariantBDecodesTenthsSignMagnitude : Prop :=
  ∀ b0 b1 b2 b3 : Byte,
    (decodeB b0 b1 b2 b3).1 = f32Div (f32OfNat (b0.toNat * 256 + b1.toNat)) 0x41200000 ∧
    (let t := f32Div (f32OfNat (b2.toNat % 128 * 256 + b3.toNat)) 0x41200000
     t.getLsbD 31 = false ∧ (decodeB b0 b1 b2 b3).2.extractLsb' 0 31 = t.extractLsb' 0 31 ∧
     (decodeB b0 b1 b2 b3).2.getLsbD 31 = b2.getLsbD 7)

/-- Every Variant B value is the binary32 number nearest to raw / 10, ties to even (R16, R184, R185,
R191). -/
def Obligations.TenthsAreRoundedToNearestEven : Prop :=
  ∀ (n : BitVec 16) (z : Word), z.toNat < 0x7F800000 →
    (tenths n).toNat < 0x7F800000 ∧ tenthsError n (tenths n) ≤ tenthsError n z ∧
    (tenthsError n z = tenthsError n (tenths n) → z ≠ tenths n → (tenths n).getLsbD 0 = false)

/-- The binary32 range check is the integer check of R188 (R188). -/
def Obligations.RangeCheckHasItsIntegerForm : Prop :=
  ∀ (lvar : BitVec 1) (f : BitVec 40),
    f32Le 0 (decodeFrame lvar f).1 = true ∧
    (humidityInRange (decodeFrame lvar f).1 = false ↔
      if lvar = 0 then (frameByte f 0).toNat > 100
      else (frameByte f 0).toNat * 256 + (frameByte f 1).toNat > 1000)

/-- raise writes ERR, VALID and phase, PINERR and pinop for PinError, and nothing else (R217). -/
def Obligations.RaiseRecordsTheErrorAndNothingElse : Prop :=
  ∀ s : State,
    raiseError .notPresent s = errored 1 s ∧ raiseError .checksumMismatch s = errored 2 s ∧
    raiseError .invalidData s = errored 3 s ∧ raiseError .timeout s = errored 4 s ∧
    ∀ p, raiseError (.pinError p .setLow) s = pinErrored 1 p s ∧
      raiseError (.pinError p .setHigh) s = pinErrored 2 p s ∧
      raiseError (.pinError p .isHigh) s = pinErrored 3 p s ∧
      raiseError (.pinError p .isLow) s = pinErrored 4 p s

/-- Each error kind arises only in its phases, from its cause, with its record (R210). -/
def Obligations.ErrorsAriseOnlyAsListed : Prop :=
  ∀ s t, Sound s → step s = .next t → s.err = 0 → t.err ≠ 0 →
    controllerTurn s ∧ t.phase = 11 ∧
    ((t.err = 1 ∧ (s.phase = 5 ∨ s.phase = 6) ∧ s.ecnt.toNat + 1 = pollBudget s) ∨
     (t.err = 2 ∧ s.phase = 9 ∧ frameByte s.frame 4 ≠ checksum s.frame ∧
       t.cksumReceived = frameByte s.frame 4 ∧ t.cksumCalc = checksum s.frame) ∨
     (t.err = 3 ∧ s.phase = 10 ∧ humidityInRange (decodeFrame s.lvar s.frame).1 = false) ∨
     (t.err = 4 ∧ (s.phase = 7 ∨ s.phase = 8) ∧ s.ecnt.toNat + 1 = pollBudget s ∧ t.bitcnt = s.bitcnt) ∨
     (t.err = 5 ∧ s.phase.toNat ∈ [1, 3, 5, 6, 7, 8] ∧ t.pinop = phaseOp s.phase ∧
       ∃ p, nextReply s = .err p ∧ t.pinerr = pinPayload s.params.pinErrW p))

/-- Every step keeps the phase or moves it along R22's table (R22, R150, R160). -/
def Obligations.PhasesFollowTheSuccessorTable : Prop :=
  ∀ s t, Sound s → step s = .next t →
    t.phase = s.phase ∨
    ((∃ ts, s.turns = .reset :: ts) ∧ t.phase = 0) ∨
    ((∃ w ts d, s.turns = .host w :: ts ∧ decodeHbus w = .wrCtrlStart d) ∧
      (s.phase = 0 ∨ s.phase = 11) ∧ t.phase = 1) ∨
    (controllerTurn s ∧
      ((s.phase.toNat, t.phase.toNat) ∈ [(1, 2), (2, 3), (3, 4), (4, 5), (5, 6), (6, 7), (7, 8), (9, 10)] ∨
       (s.phase = 8 ∧ t.phase = 7 ∧ t.bitcnt.toNat < 40) ∨ (s.phase = 8 ∧ t.phase = 9 ∧ t.bitcnt = 40) ∨
       (s.phase = 10 ∧ t.phase = 11 ∧ t.err = 0 ∧ t.valid = 1) ∨
       (s.phase.toNat ∈ [1, 3, 5, 6, 7, 8, 9, 10] ∧ t.phase = 11 ∧ t.err ≠ 0)))

/-- Who writes lvar, VARIANT, line_cmd and the configuration (R23, R24, R38, R72). -/
def Obligations.HostRegistersHaveOneWriter : Prop :=
  ∀ s t, Sound s → step s = .next t →
    t.params = s.params ∧
    (t.lvar ≠ s.lvar → (∃ ts, s.turns = .reset :: ts) ∨
      (∃ w ts d, s.turns = .host w :: ts ∧ decodeHbus w = .wrCtrlStart d) ∧ busy s = false ∧
        t.lvar = s.variant) ∧
    (t.variant ≠ s.variant → (∃ ts, s.turns = .reset :: ts) ∨
      (∃ w ts d, s.turns = .host w :: ts ∧ decodeHbus w = .wrConfig d) ∧ busy s = false) ∧
    (t.lineCmd ≠ s.lineCmd → ((∃ ts, s.turns = .reset :: ts) ∧ t.lineCmd = .unset) ∨
      controllerTurn s ∧ (s.phase = 1 ∧ t.lineCmd = .low ∨ s.phase = 3 ∧ t.lineCmd = .high))

/-- VALID, HUMIDITY and TEMPERATURE change only by a successful DECODE, an accepted START or a reset, and
each of the three gives them the values its rule says (R28, R34, R35, R44, R112, R190). -/
def Obligations.ReadingsComeOnlyFromDecode : Prop :=
  ∀ s t, Sound s → step s = .next t →
    (t.valid = 1 → s.valid = 0 → controllerTurn s ∧ s.phase = 10 ∧
      humidityInRange (decodeFrame s.lvar s.frame).1 = true ∧
      (t.humidity, t.temperature) = decodeFrame s.lvar s.frame) ∧
    (t.humidity ≠ s.humidity → t.humidity ≠ 0 → t.valid = 1 ∧ s.phase = 10) ∧
    (t.temperature ≠ s.temperature → t.temperature ≠ 0 → t.valid = 1 ∧ s.phase = 10) ∧
    (t.valid ≠ s.valid ∨ t.humidity ≠ s.humidity ∨ t.temperature ≠ s.temperature →
      ((∃ ts, s.turns = .reset :: ts) ∧ t.valid = 0 ∧ t.humidity = 0 ∧ t.temperature = 0) ∨
      ((∃ w ts d, s.turns = .host w :: ts ∧ decodeHbus w = .wrCtrlStart d) ∧ busy s = false ∧
        t.valid = 0 ∧ t.humidity = 0 ∧ t.temperature = 0) ∨
      (controllerTurn s ∧ s.phase = 10 ∧ humidityInRange (decodeFrame s.lvar s.frame).1 = true ∧
        t.valid = 1 ∧ (t.humidity, t.temperature) = decodeFrame s.lvar s.frame))

/-- Every step keeps R47's invariants (a) to (g), with what they rest on (R47). -/
def Obligations.EveryStepKeepsTheInvariantsOfR47 : Prop :=
  ∀ s t, Sound s → step s = .next t → Sound t

/-- Every step keeps the counters within their budgets (R10, R37, R141, R144, R146). -/
def Obligations.CountersStayWithinBudget : Prop :=
  ∀ s t, Sound s → WithinBudget s → step s = .next t → WithinBudget t

/-- Every step keeps the meaning of the result registers (R33, R34, R35, R36, R180, R187, R190). -/
def Obligations.ResultRegistersMeanWhatTheySay : Prop :=
  ∀ s t, Sound s → ResultMeans s → step s = .next t → ResultMeans t

/-- Every step keeps the bits not yet received at 0 (R164, R167). -/
def Obligations.BitsNotReceivedReadZero : Prop :=
  ∀ s t, Sound s → PartialFrame s → step s = .next t → PartialFrame t

/-- Every step keeps line_cmd LOW in the hold and release and HIGH from the settle to the decode (R38,
R166, R218). -/
def Obligations.LineCommandFollowsThePhase : Prop :=
  ∀ s t, Sound s → LineTold s → step s = .next t → LineTold t

/-- k failed samples take k steps, k ticks and k transactions and add k to the count (R19, R141, R249). -/
def Obligations.FailedSamplesAreCounted : Prop :=
  ∀ (s : State) (k : Nat) (restL : List PinReply) (restT : List Bool), Sound s → polling s →
    s.turns = [] → s.port = 0 → s.awaitTick = false → s.ecnt.toNat + k < pollBudget s →
    s.line = List.replicate k (.ok false) ++ restL → s.ticks = List.replicate k true ++ restT →
    runFor k s = .next
      { s with
        ecnt := s.ecnt + BitVec.ofNat 16 k, line := restL, lineDraws := s.lineDraws + k,
        ticks := restT, tickDraws := s.tickDraws + k }

/-- An exhausted poll takes its whole budget and gives NotPresent in the handshake, Timeout in the loop
(R141, R149, R249).
The count an exhausted poll leaves is that of R141's line `ecnt <- ecnt + 1` (log 10). -/
def Obligations.AnExhaustedPollNamesItsPhase : Prop :=
  ∀ (s : State) (restL : List PinReply) (restT : List Bool), Sound s → polling s →
    s.turns = [] → s.port = 0 → s.awaitTick = false → s.ecnt = 0 →
    s.line = List.replicate (pollBudget s) (.ok false) ++ restL →
    s.ticks = List.replicate (pollBudget s) true ++ restT →
    runFor (pollBudget s) s = .next
      { s with
        ecnt := BitVec.ofNat 16 (pollBudget s), line := restL,
        lineDraws := s.lineDraws + pollBudget s, ticks := restT,
        tickDraws := s.tickDraws + pollBudget s, valid := 0, phase := 11,
        err := if s.phase = 5 ∨ s.phase = 6 then 1 else 4 }

/-- Every controller step of a read that is answered brings its end nearer (R249, R250). -/
def Obligations.StepsLeftFallWithEveryAnsweredStep : Prop :=
  (∀ s t, Sound s → WithinBudget s → busy s = true → controllerTurn s → nextReply s ≠ .silent →
    nextTick s = true → step s = .next t → stepsLeft t < stepsLeft s) ∧
  (∀ s, busy s = false → stepsLeft (startRead s) = readBound s.params) ∧
  readBound Params.default = 8199

/-- A read whose transactions are answered and whose ticks come reaches COMPLETE in time (R249, R250). -/
def Obligations.EveryAnsweredReadEnds : Prop :=
  ∀ s, Sound s → WithinBudget s → busy s = true → s.turns = [] → Answered (stepsLeft s) s →
    ∃ k t, k ≤ stepsLeft s ∧ runFor k s = .next t ∧ t.phase = 11

/-- Forty pulses leave the frame of R165's shift form and the phase CHECK (R160, R163, R164, R165,
R166). -/
def Obligations.FortyPulsesMakeTheFrame : Prop :=
  ∀ (s : State) (pulses : List (Nat × Nat)) (restL : List PinReply) (restT : List Bool),
    s.params.ok = true → s.turns = [] → s.port = 0 → s.awaitTick = false → s.phase = 7 →
    s.bitcnt = 0 → s.frame = 0 → s.ecnt = 0 → pulses.length = 40 → pulsesFit s.params pulses →
    s.line = scriptReplies (pulsesScript pulses) ++ restL →
    s.ticks = List.replicate (pulsesTicks pulses) true ++ restT →
    runFor (pulsesSteps pulses) s = .next
      { s with
        frame := streamFrame (pulses.map fun q => pulseBit s.params q.2), bitcnt := 40, phase := 9,
        line := restL, lineDraws := s.lineDraws + pulsesSteps pulses, ticks := restT,
        tickDraws := s.tickDraws + pulsesTicks pulses }

/-- End to end: a read whose polls succeed ends as its 40 bits say (R192). After a mismatch the read ends one
step sooner, and the last step counted is a controller turn in COMPLETE, which changes nothing (log 14). -/
def Obligations.ReadsEndAsTheFrameSays : Prop :=
  ∀ (s : State) (a b : Nat) (pulses : List (Nat × Nat)) (restL : List PinReply) (restT : List Bool),
    let p := s.params
    let f := streamFrame (pulses.map fun q => pulseBit p q.2)
    let r := decodeFrame s.lvar f
    p.ok = true → s.turns = [] → s.port = 0 → s.awaitTick = false → s.phase = 1 → s.bitcnt = 0 →
    s.frame = 0 → s.valid = 0 → s.err = 0 → a < p.samples p.tPresHigh → b < p.samples p.tPresLow →
    pulses.length = 40 → pulsesFit p pulses →
    s.line = scriptReplies ([.set, .set, .poll a, .poll b] ++ pulsesScript pulses) ++ restL →
    s.ticks = List.replicate (p.tWakeLow + p.tWakeRel + a + b + pulsesTicks pulses) true ++ restT →
    ∃ t, runFor (p.tWakeLow + p.tWakeRel + a + b + 4 + pulsesSteps pulses + 2) s = .next t ∧
      t.phase = 11 ∧ t.frame = f ∧ t.bitcnt = 40 ∧
      (frameByte f 4 = checksum f → (t.valid = 1 ↔ humidityInRange r.1 = true) ∧
        (humidityInRange r.1 = true → t.err = 0 ∧ t.humidity = r.1 ∧ t.temperature = r.2) ∧
        (humidityInRange r.1 = false → t.err = 3)) ∧
      (frameByte f 4 ≠ checksum f → t.err = 2 ∧ t.valid = 0 ∧ t.cksumReceived = frameByte f 4 ∧
        t.cksumCalc = checksum f)
end

