-- ==== Sys2Proof/Laws/State.lean ====
section
/-! SUPPORT. One lemma per field per named update of the state, so that no proof unfolds an update. -/

namespace Sys2Proof.Machine

variable (s : State)

/-! ### takeReply -/

@[simp] theorem takeReply_params : (takeReply s).params = s.params := rfl
@[simp] theorem takeReply_phase : (takeReply s).phase = s.phase := rfl
@[simp] theorem takeReply_lvar : (takeReply s).lvar = s.lvar := rfl
@[simp] theorem takeReply_variant : (takeReply s).variant = s.variant := rfl
@[simp] theorem takeReply_valid : (takeReply s).valid = s.valid := rfl
@[simp] theorem takeReply_err : (takeReply s).err = s.err := rfl
@[simp] theorem takeReply_bitcnt : (takeReply s).bitcnt = s.bitcnt := rfl
@[simp] theorem takeReply_pinop : (takeReply s).pinop = s.pinop := rfl
@[simp] theorem takeReply_frame : (takeReply s).frame = s.frame := rfl
@[simp] theorem takeReply_cksumReceived : (takeReply s).cksumReceived = s.cksumReceived := rfl
@[simp] theorem takeReply_cksumCalc : (takeReply s).cksumCalc = s.cksumCalc := rfl
@[simp] theorem takeReply_ckv : (takeReply s).ckv = s.ckv := rfl
@[simp] theorem takeReply_humidity : (takeReply s).humidity = s.humidity := rfl
@[simp] theorem takeReply_temperature : (takeReply s).temperature = s.temperature := rfl
@[simp] theorem takeReply_pinerr : (takeReply s).pinerr = s.pinerr := rfl
@[simp] theorem takeReply_ecnt : (takeReply s).ecnt = s.ecnt := rfl
@[simp] theorem takeReply_dcnt : (takeReply s).dcnt = s.dcnt := rfl
@[simp] theorem takeReply_lineCmd : (takeReply s).lineCmd = s.lineCmd := rfl
@[simp] theorem takeReply_port : (takeReply s).port = s.port := rfl
@[simp] theorem takeReply_awaitTick : (takeReply s).awaitTick = s.awaitTick := rfl
@[simp] theorem takeReply_rdata : (takeReply s).rdata = s.rdata := rfl
@[simp] theorem takeReply_turns : (takeReply s).turns = s.turns := rfl
@[simp] theorem takeReply_line : (takeReply s).line = s.line.tail := rfl
@[simp] theorem takeReply_lineDraws : (takeReply s).lineDraws = s.lineDraws + 1 := rfl
@[simp] theorem takeReply_ticks : (takeReply s).ticks = s.ticks := rfl
@[simp] theorem takeReply_tickDraws : (takeReply s).tickDraws = s.tickDraws := rfl

/-! ### takeTick -/

@[simp] theorem takeTick_params : (takeTick s).params = s.params := rfl
@[simp] theorem takeTick_phase : (takeTick s).phase = s.phase := rfl
@[simp] theorem takeTick_lvar : (takeTick s).lvar = s.lvar := rfl
@[simp] theorem takeTick_variant : (takeTick s).variant = s.variant := rfl
@[simp] theorem takeTick_valid : (takeTick s).valid = s.valid := rfl
@[simp] theorem takeTick_err : (takeTick s).err = s.err := rfl
@[simp] theorem takeTick_bitcnt : (takeTick s).bitcnt = s.bitcnt := rfl
@[simp] theorem takeTick_pinop : (takeTick s).pinop = s.pinop := rfl
@[simp] theorem takeTick_frame : (takeTick s).frame = s.frame := rfl
@[simp] theorem takeTick_cksumReceived : (takeTick s).cksumReceived = s.cksumReceived := rfl
@[simp] theorem takeTick_cksumCalc : (takeTick s).cksumCalc = s.cksumCalc := rfl
@[simp] theorem takeTick_ckv : (takeTick s).ckv = s.ckv := rfl
@[simp] theorem takeTick_humidity : (takeTick s).humidity = s.humidity := rfl
@[simp] theorem takeTick_temperature : (takeTick s).temperature = s.temperature := rfl
@[simp] theorem takeTick_pinerr : (takeTick s).pinerr = s.pinerr := rfl
@[simp] theorem takeTick_ecnt : (takeTick s).ecnt = s.ecnt := rfl
@[simp] theorem takeTick_dcnt : (takeTick s).dcnt = s.dcnt := rfl
@[simp] theorem takeTick_lineCmd : (takeTick s).lineCmd = s.lineCmd := rfl
@[simp] theorem takeTick_port : (takeTick s).port = s.port := rfl
@[simp] theorem takeTick_awaitTick : (takeTick s).awaitTick = s.awaitTick := rfl
@[simp] theorem takeTick_rdata : (takeTick s).rdata = s.rdata := rfl
@[simp] theorem takeTick_turns : (takeTick s).turns = s.turns := rfl
@[simp] theorem takeTick_line : (takeTick s).line = s.line := rfl
@[simp] theorem takeTick_lineDraws : (takeTick s).lineDraws = s.lineDraws := rfl
@[simp] theorem takeTick_ticks : (takeTick s).ticks = s.ticks.tail := rfl
@[simp] theorem takeTick_tickDraws : (takeTick s).tickDraws = s.tickDraws + 1 := rfl

/-! ### respond -/

@[simp] theorem respond_params (v : Word) : (respond v s).params = s.params := rfl
@[simp] theorem respond_phase (v : Word) : (respond v s).phase = s.phase := rfl
@[simp] theorem respond_lvar (v : Word) : (respond v s).lvar = s.lvar := rfl
@[simp] theorem respond_variant (v : Word) : (respond v s).variant = s.variant := rfl
@[simp] theorem respond_valid (v : Word) : (respond v s).valid = s.valid := rfl
@[simp] theorem respond_err (v : Word) : (respond v s).err = s.err := rfl
@[simp] theorem respond_bitcnt (v : Word) : (respond v s).bitcnt = s.bitcnt := rfl
@[simp] theorem respond_pinop (v : Word) : (respond v s).pinop = s.pinop := rfl
@[simp] theorem respond_frame (v : Word) : (respond v s).frame = s.frame := rfl
@[simp] theorem respond_cksumReceived (v : Word) : (respond v s).cksumReceived = s.cksumReceived := rfl
@[simp] theorem respond_cksumCalc (v : Word) : (respond v s).cksumCalc = s.cksumCalc := rfl
@[simp] theorem respond_ckv (v : Word) : (respond v s).ckv = s.ckv := rfl
@[simp] theorem respond_humidity (v : Word) : (respond v s).humidity = s.humidity := rfl
@[simp] theorem respond_temperature (v : Word) : (respond v s).temperature = s.temperature := rfl
@[simp] theorem respond_pinerr (v : Word) : (respond v s).pinerr = s.pinerr := rfl
@[simp] theorem respond_ecnt (v : Word) : (respond v s).ecnt = s.ecnt := rfl
@[simp] theorem respond_dcnt (v : Word) : (respond v s).dcnt = s.dcnt := rfl
@[simp] theorem respond_lineCmd (v : Word) : (respond v s).lineCmd = s.lineCmd := rfl
@[simp] theorem respond_port (v : Word) : (respond v s).port = s.port := rfl
@[simp] theorem respond_awaitTick (v : Word) : (respond v s).awaitTick = s.awaitTick := rfl
@[simp] theorem respond_rdata (v : Word) : (respond v s).rdata = v := rfl
@[simp] theorem respond_turns (v : Word) : (respond v s).turns = s.turns := rfl
@[simp] theorem respond_line (v : Word) : (respond v s).line = s.line := rfl
@[simp] theorem respond_lineDraws (v : Word) : (respond v s).lineDraws = s.lineDraws := rfl
@[simp] theorem respond_ticks (v : Word) : (respond v s).ticks = s.ticks := rfl
@[simp] theorem respond_tickDraws (v : Word) : (respond v s).tickDraws = s.tickDraws := rfl

/-! ### succeed -/

@[simp] theorem succeed_params (h t : Word) : (succeed h t s).params = s.params := rfl
@[simp] theorem succeed_phase (h t : Word) : (succeed h t s).phase = phaseCode .complete := rfl
@[simp] theorem succeed_lvar (h t : Word) : (succeed h t s).lvar = s.lvar := rfl
@[simp] theorem succeed_variant (h t : Word) : (succeed h t s).variant = s.variant := rfl
@[simp] theorem succeed_valid (h t : Word) : (succeed h t s).valid = 1 := rfl
@[simp] theorem succeed_err (h t : Word) : (succeed h t s).err = s.err := rfl
@[simp] theorem succeed_bitcnt (h t : Word) : (succeed h t s).bitcnt = s.bitcnt := rfl
@[simp] theorem succeed_pinop (h t : Word) : (succeed h t s).pinop = s.pinop := rfl
@[simp] theorem succeed_frame (h t : Word) : (succeed h t s).frame = s.frame := rfl
@[simp] theorem succeed_cksumReceived (h t : Word) : (succeed h t s).cksumReceived = s.cksumReceived := rfl
@[simp] theorem succeed_cksumCalc (h t : Word) : (succeed h t s).cksumCalc = s.cksumCalc := rfl
@[simp] theorem succeed_ckv (h t : Word) : (succeed h t s).ckv = s.ckv := rfl
@[simp] theorem succeed_humidity (h t : Word) : (succeed h t s).humidity = h := rfl
@[simp] theorem succeed_temperature (h t : Word) : (succeed h t s).temperature = t := rfl
@[simp] theorem succeed_pinerr (h t : Word) : (succeed h t s).pinerr = s.pinerr := rfl
@[simp] theorem succeed_ecnt (h t : Word) : (succeed h t s).ecnt = s.ecnt := rfl
@[simp] theorem succeed_dcnt (h t : Word) : (succeed h t s).dcnt = s.dcnt := rfl
@[simp] theorem succeed_lineCmd (h t : Word) : (succeed h t s).lineCmd = s.lineCmd := rfl
@[simp] theorem succeed_port (h t : Word) : (succeed h t s).port = s.port := rfl
@[simp] theorem succeed_awaitTick (h t : Word) : (succeed h t s).awaitTick = s.awaitTick := rfl
@[simp] theorem succeed_rdata (h t : Word) : (succeed h t s).rdata = s.rdata := rfl
@[simp] theorem succeed_turns (h t : Word) : (succeed h t s).turns = s.turns := rfl
@[simp] theorem succeed_line (h t : Word) : (succeed h t s).line = s.line := rfl
@[simp] theorem succeed_lineDraws (h t : Word) : (succeed h t s).lineDraws = s.lineDraws := rfl
@[simp] theorem succeed_ticks (h t : Word) : (succeed h t s).ticks = s.ticks := rfl
@[simp] theorem succeed_tickDraws (h t : Word) : (succeed h t s).tickDraws = s.tickDraws := rfl

/-! ### wakeLowDone -/

@[simp] theorem wakeLowDone_params : (wakeLowDone s).params = s.params := rfl
@[simp] theorem wakeLowDone_phase : (wakeLowDone s).phase = phaseCode .wakeHold := rfl
@[simp] theorem wakeLowDone_lvar : (wakeLowDone s).lvar = s.lvar := rfl
@[simp] theorem wakeLowDone_variant : (wakeLowDone s).variant = s.variant := rfl
@[simp] theorem wakeLowDone_valid : (wakeLowDone s).valid = s.valid := rfl
@[simp] theorem wakeLowDone_err : (wakeLowDone s).err = s.err := rfl
@[simp] theorem wakeLowDone_bitcnt : (wakeLowDone s).bitcnt = s.bitcnt := rfl
@[simp] theorem wakeLowDone_pinop : (wakeLowDone s).pinop = s.pinop := rfl
@[simp] theorem wakeLowDone_frame : (wakeLowDone s).frame = s.frame := rfl
@[simp] theorem wakeLowDone_cksumReceived : (wakeLowDone s).cksumReceived = s.cksumReceived := rfl
@[simp] theorem wakeLowDone_cksumCalc : (wakeLowDone s).cksumCalc = s.cksumCalc := rfl
@[simp] theorem wakeLowDone_ckv : (wakeLowDone s).ckv = s.ckv := rfl
@[simp] theorem wakeLowDone_humidity : (wakeLowDone s).humidity = s.humidity := rfl
@[simp] theorem wakeLowDone_temperature : (wakeLowDone s).temperature = s.temperature := rfl
@[simp] theorem wakeLowDone_pinerr : (wakeLowDone s).pinerr = s.pinerr := rfl
@[simp] theorem wakeLowDone_ecnt : (wakeLowDone s).ecnt = s.ecnt := rfl
@[simp] theorem wakeLowDone_dcnt : (wakeLowDone s).dcnt = BitVec.ofNat 16 s.params.tWakeLow := rfl
@[simp] theorem wakeLowDone_lineCmd : (wakeLowDone s).lineCmd = .low := rfl
@[simp] theorem wakeLowDone_port : (wakeLowDone s).port = s.port := rfl
@[simp] theorem wakeLowDone_awaitTick : (wakeLowDone s).awaitTick = s.awaitTick := rfl
@[simp] theorem wakeLowDone_rdata : (wakeLowDone s).rdata = s.rdata := rfl
@[simp] theorem wakeLowDone_turns : (wakeLowDone s).turns = s.turns := rfl
@[simp] theorem wakeLowDone_line : (wakeLowDone s).line = s.line := rfl
@[simp] theorem wakeLowDone_lineDraws : (wakeLowDone s).lineDraws = s.lineDraws := rfl
@[simp] theorem wakeLowDone_ticks : (wakeLowDone s).ticks = s.ticks := rfl
@[simp] theorem wakeLowDone_tickDraws : (wakeLowDone s).tickDraws = s.tickDraws := rfl

/-! ### wakeReleaseDone -/

@[simp] theorem wakeReleaseDone_params : (wakeReleaseDone s).params = s.params := rfl
@[simp] theorem wakeReleaseDone_phase : (wakeReleaseDone s).phase = phaseCode .wakeSettle := rfl
@[simp] theorem wakeReleaseDone_lvar : (wakeReleaseDone s).lvar = s.lvar := rfl
@[simp] theorem wakeReleaseDone_variant : (wakeReleaseDone s).variant = s.variant := rfl
@[simp] theorem wakeReleaseDone_valid : (wakeReleaseDone s).valid = s.valid := rfl
@[simp] theorem wakeReleaseDone_err : (wakeReleaseDone s).err = s.err := rfl
@[simp] theorem wakeReleaseDone_bitcnt : (wakeReleaseDone s).bitcnt = s.bitcnt := rfl
@[simp] theorem wakeReleaseDone_pinop : (wakeReleaseDone s).pinop = s.pinop := rfl
@[simp] theorem wakeReleaseDone_frame : (wakeReleaseDone s).frame = s.frame := rfl
@[simp] theorem wakeReleaseDone_cksumReceived : (wakeReleaseDone s).cksumReceived = s.cksumReceived := rfl
@[simp] theorem wakeReleaseDone_cksumCalc : (wakeReleaseDone s).cksumCalc = s.cksumCalc := rfl
@[simp] theorem wakeReleaseDone_ckv : (wakeReleaseDone s).ckv = s.ckv := rfl
@[simp] theorem wakeReleaseDone_humidity : (wakeReleaseDone s).humidity = s.humidity := rfl
@[simp] theorem wakeReleaseDone_temperature : (wakeReleaseDone s).temperature = s.temperature := rfl
@[simp] theorem wakeReleaseDone_pinerr : (wakeReleaseDone s).pinerr = s.pinerr := rfl
@[simp] theorem wakeReleaseDone_ecnt : (wakeReleaseDone s).ecnt = s.ecnt := rfl
@[simp] theorem wakeReleaseDone_dcnt : (wakeReleaseDone s).dcnt = BitVec.ofNat 16 s.params.tWakeRel := rfl
@[simp] theorem wakeReleaseDone_lineCmd : (wakeReleaseDone s).lineCmd = .high := rfl
@[simp] theorem wakeReleaseDone_port : (wakeReleaseDone s).port = s.port := rfl
@[simp] theorem wakeReleaseDone_awaitTick : (wakeReleaseDone s).awaitTick = s.awaitTick := rfl
@[simp] theorem wakeReleaseDone_rdata : (wakeReleaseDone s).rdata = s.rdata := rfl
@[simp] theorem wakeReleaseDone_turns : (wakeReleaseDone s).turns = s.turns := rfl
@[simp] theorem wakeReleaseDone_line : (wakeReleaseDone s).line = s.line := rfl
@[simp] theorem wakeReleaseDone_lineDraws : (wakeReleaseDone s).lineDraws = s.lineDraws := rfl
@[simp] theorem wakeReleaseDone_ticks : (wakeReleaseDone s).ticks = s.ticks := rfl
@[simp] theorem wakeReleaseDone_tickDraws : (wakeReleaseDone s).tickDraws = s.tickDraws := rfl

/-! ### wakeHoldDone -/

@[simp] theorem wakeHoldDone_params : (wakeHoldDone s).params = s.params := rfl
@[simp] theorem wakeHoldDone_phase : (wakeHoldDone s).phase = phaseCode .wakeRelease := rfl
@[simp] theorem wakeHoldDone_lvar : (wakeHoldDone s).lvar = s.lvar := rfl
@[simp] theorem wakeHoldDone_variant : (wakeHoldDone s).variant = s.variant := rfl
@[simp] theorem wakeHoldDone_valid : (wakeHoldDone s).valid = s.valid := rfl
@[simp] theorem wakeHoldDone_err : (wakeHoldDone s).err = s.err := rfl
@[simp] theorem wakeHoldDone_bitcnt : (wakeHoldDone s).bitcnt = s.bitcnt := rfl
@[simp] theorem wakeHoldDone_pinop : (wakeHoldDone s).pinop = s.pinop := rfl
@[simp] theorem wakeHoldDone_frame : (wakeHoldDone s).frame = s.frame := rfl
@[simp] theorem wakeHoldDone_cksumReceived : (wakeHoldDone s).cksumReceived = s.cksumReceived := rfl
@[simp] theorem wakeHoldDone_cksumCalc : (wakeHoldDone s).cksumCalc = s.cksumCalc := rfl
@[simp] theorem wakeHoldDone_ckv : (wakeHoldDone s).ckv = s.ckv := rfl
@[simp] theorem wakeHoldDone_humidity : (wakeHoldDone s).humidity = s.humidity := rfl
@[simp] theorem wakeHoldDone_temperature : (wakeHoldDone s).temperature = s.temperature := rfl
@[simp] theorem wakeHoldDone_pinerr : (wakeHoldDone s).pinerr = s.pinerr := rfl
@[simp] theorem wakeHoldDone_ecnt : (wakeHoldDone s).ecnt = s.ecnt := rfl
@[simp] theorem wakeHoldDone_dcnt : (wakeHoldDone s).dcnt = s.dcnt := rfl
@[simp] theorem wakeHoldDone_lineCmd : (wakeHoldDone s).lineCmd = s.lineCmd := rfl
@[simp] theorem wakeHoldDone_port : (wakeHoldDone s).port = s.port := rfl
@[simp] theorem wakeHoldDone_awaitTick : (wakeHoldDone s).awaitTick = s.awaitTick := rfl
@[simp] theorem wakeHoldDone_rdata : (wakeHoldDone s).rdata = s.rdata := rfl
@[simp] theorem wakeHoldDone_turns : (wakeHoldDone s).turns = s.turns := rfl
@[simp] theorem wakeHoldDone_line : (wakeHoldDone s).line = s.line := rfl
@[simp] theorem wakeHoldDone_lineDraws : (wakeHoldDone s).lineDraws = s.lineDraws := rfl
@[simp] theorem wakeHoldDone_ticks : (wakeHoldDone s).ticks = s.ticks := rfl
@[simp] theorem wakeHoldDone_tickDraws : (wakeHoldDone s).tickDraws = s.tickDraws := rfl

/-! ### wakeSettleDone -/

@[simp] theorem wakeSettleDone_params : (wakeSettleDone s).params = s.params := rfl
@[simp] theorem wakeSettleDone_phase : (wakeSettleDone s).phase = phaseCode .presHigh := rfl
@[simp] theorem wakeSettleDone_lvar : (wakeSettleDone s).lvar = s.lvar := rfl
@[simp] theorem wakeSettleDone_variant : (wakeSettleDone s).variant = s.variant := rfl
@[simp] theorem wakeSettleDone_valid : (wakeSettleDone s).valid = s.valid := rfl
@[simp] theorem wakeSettleDone_err : (wakeSettleDone s).err = s.err := rfl
@[simp] theorem wakeSettleDone_bitcnt : (wakeSettleDone s).bitcnt = s.bitcnt := rfl
@[simp] theorem wakeSettleDone_pinop : (wakeSettleDone s).pinop = s.pinop := rfl
@[simp] theorem wakeSettleDone_frame : (wakeSettleDone s).frame = s.frame := rfl
@[simp] theorem wakeSettleDone_cksumReceived : (wakeSettleDone s).cksumReceived = s.cksumReceived := rfl
@[simp] theorem wakeSettleDone_cksumCalc : (wakeSettleDone s).cksumCalc = s.cksumCalc := rfl
@[simp] theorem wakeSettleDone_ckv : (wakeSettleDone s).ckv = s.ckv := rfl
@[simp] theorem wakeSettleDone_humidity : (wakeSettleDone s).humidity = s.humidity := rfl
@[simp] theorem wakeSettleDone_temperature : (wakeSettleDone s).temperature = s.temperature := rfl
@[simp] theorem wakeSettleDone_pinerr : (wakeSettleDone s).pinerr = s.pinerr := rfl
@[simp] theorem wakeSettleDone_ecnt : (wakeSettleDone s).ecnt = 0 := rfl
@[simp] theorem wakeSettleDone_dcnt : (wakeSettleDone s).dcnt = s.dcnt := rfl
@[simp] theorem wakeSettleDone_lineCmd : (wakeSettleDone s).lineCmd = s.lineCmd := rfl
@[simp] theorem wakeSettleDone_port : (wakeSettleDone s).port = s.port := rfl
@[simp] theorem wakeSettleDone_awaitTick : (wakeSettleDone s).awaitTick = s.awaitTick := rfl
@[simp] theorem wakeSettleDone_rdata : (wakeSettleDone s).rdata = s.rdata := rfl
@[simp] theorem wakeSettleDone_turns : (wakeSettleDone s).turns = s.turns := rfl
@[simp] theorem wakeSettleDone_line : (wakeSettleDone s).line = s.line := rfl
@[simp] theorem wakeSettleDone_lineDraws : (wakeSettleDone s).lineDraws = s.lineDraws := rfl
@[simp] theorem wakeSettleDone_ticks : (wakeSettleDone s).ticks = s.ticks := rfl
@[simp] theorem wakeSettleDone_tickDraws : (wakeSettleDone s).tickDraws = s.tickDraws := rfl

/-! ### presHighDone -/

@[simp] theorem presHighDone_params : (presHighDone s).params = s.params := rfl
@[simp] theorem presHighDone_phase : (presHighDone s).phase = phaseCode .presLow := rfl
@[simp] theorem presHighDone_lvar : (presHighDone s).lvar = s.lvar := rfl
@[simp] theorem presHighDone_variant : (presHighDone s).variant = s.variant := rfl
@[simp] theorem presHighDone_valid : (presHighDone s).valid = s.valid := rfl
@[simp] theorem presHighDone_err : (presHighDone s).err = s.err := rfl
@[simp] theorem presHighDone_bitcnt : (presHighDone s).bitcnt = s.bitcnt := rfl
@[simp] theorem presHighDone_pinop : (presHighDone s).pinop = s.pinop := rfl
@[simp] theorem presHighDone_frame : (presHighDone s).frame = s.frame := rfl
@[simp] theorem presHighDone_cksumReceived : (presHighDone s).cksumReceived = s.cksumReceived := rfl
@[simp] theorem presHighDone_cksumCalc : (presHighDone s).cksumCalc = s.cksumCalc := rfl
@[simp] theorem presHighDone_ckv : (presHighDone s).ckv = s.ckv := rfl
@[simp] theorem presHighDone_humidity : (presHighDone s).humidity = s.humidity := rfl
@[simp] theorem presHighDone_temperature : (presHighDone s).temperature = s.temperature := rfl
@[simp] theorem presHighDone_pinerr : (presHighDone s).pinerr = s.pinerr := rfl
@[simp] theorem presHighDone_ecnt : (presHighDone s).ecnt = 0 := rfl
@[simp] theorem presHighDone_dcnt : (presHighDone s).dcnt = s.dcnt := rfl
@[simp] theorem presHighDone_lineCmd : (presHighDone s).lineCmd = s.lineCmd := rfl
@[simp] theorem presHighDone_port : (presHighDone s).port = s.port := rfl
@[simp] theorem presHighDone_awaitTick : (presHighDone s).awaitTick = s.awaitTick := rfl
@[simp] theorem presHighDone_rdata : (presHighDone s).rdata = s.rdata := rfl
@[simp] theorem presHighDone_turns : (presHighDone s).turns = s.turns := rfl
@[simp] theorem presHighDone_line : (presHighDone s).line = s.line := rfl
@[simp] theorem presHighDone_lineDraws : (presHighDone s).lineDraws = s.lineDraws := rfl
@[simp] theorem presHighDone_ticks : (presHighDone s).ticks = s.ticks := rfl
@[simp] theorem presHighDone_tickDraws : (presHighDone s).tickDraws = s.tickDraws := rfl

/-! ### presLowDone -/

@[simp] theorem presLowDone_params : (presLowDone s).params = s.params := rfl
@[simp] theorem presLowDone_phase : (presLowDone s).phase = phaseCode .bitRise := rfl
@[simp] theorem presLowDone_lvar : (presLowDone s).lvar = s.lvar := rfl
@[simp] theorem presLowDone_variant : (presLowDone s).variant = s.variant := rfl
@[simp] theorem presLowDone_valid : (presLowDone s).valid = s.valid := rfl
@[simp] theorem presLowDone_err : (presLowDone s).err = s.err := rfl
@[simp] theorem presLowDone_bitcnt : (presLowDone s).bitcnt = s.bitcnt := rfl
@[simp] theorem presLowDone_pinop : (presLowDone s).pinop = s.pinop := rfl
@[simp] theorem presLowDone_frame : (presLowDone s).frame = s.frame := rfl
@[simp] theorem presLowDone_cksumReceived : (presLowDone s).cksumReceived = s.cksumReceived := rfl
@[simp] theorem presLowDone_cksumCalc : (presLowDone s).cksumCalc = s.cksumCalc := rfl
@[simp] theorem presLowDone_ckv : (presLowDone s).ckv = s.ckv := rfl
@[simp] theorem presLowDone_humidity : (presLowDone s).humidity = s.humidity := rfl
@[simp] theorem presLowDone_temperature : (presLowDone s).temperature = s.temperature := rfl
@[simp] theorem presLowDone_pinerr : (presLowDone s).pinerr = s.pinerr := rfl
@[simp] theorem presLowDone_ecnt : (presLowDone s).ecnt = 0 := rfl
@[simp] theorem presLowDone_dcnt : (presLowDone s).dcnt = s.dcnt := rfl
@[simp] theorem presLowDone_lineCmd : (presLowDone s).lineCmd = s.lineCmd := rfl
@[simp] theorem presLowDone_port : (presLowDone s).port = s.port := rfl
@[simp] theorem presLowDone_awaitTick : (presLowDone s).awaitTick = s.awaitTick := rfl
@[simp] theorem presLowDone_rdata : (presLowDone s).rdata = s.rdata := rfl
@[simp] theorem presLowDone_turns : (presLowDone s).turns = s.turns := rfl
@[simp] theorem presLowDone_line : (presLowDone s).line = s.line := rfl
@[simp] theorem presLowDone_lineDraws : (presLowDone s).lineDraws = s.lineDraws := rfl
@[simp] theorem presLowDone_ticks : (presLowDone s).ticks = s.ticks := rfl
@[simp] theorem presLowDone_tickDraws : (presLowDone s).tickDraws = s.tickDraws := rfl

/-! ### bitRiseDone -/

@[simp] theorem bitRiseDone_params : (bitRiseDone s).params = s.params := rfl
@[simp] theorem bitRiseDone_phase : (bitRiseDone s).phase = phaseCode .bitHigh := rfl
@[simp] theorem bitRiseDone_lvar : (bitRiseDone s).lvar = s.lvar := rfl
@[simp] theorem bitRiseDone_variant : (bitRiseDone s).variant = s.variant := rfl
@[simp] theorem bitRiseDone_valid : (bitRiseDone s).valid = s.valid := rfl
@[simp] theorem bitRiseDone_err : (bitRiseDone s).err = s.err := rfl
@[simp] theorem bitRiseDone_bitcnt : (bitRiseDone s).bitcnt = s.bitcnt := rfl
@[simp] theorem bitRiseDone_pinop : (bitRiseDone s).pinop = s.pinop := rfl
@[simp] theorem bitRiseDone_frame : (bitRiseDone s).frame = s.frame := rfl
@[simp] theorem bitRiseDone_cksumReceived : (bitRiseDone s).cksumReceived = s.cksumReceived := rfl
@[simp] theorem bitRiseDone_cksumCalc : (bitRiseDone s).cksumCalc = s.cksumCalc := rfl
@[simp] theorem bitRiseDone_ckv : (bitRiseDone s).ckv = s.ckv := rfl
@[simp] theorem bitRiseDone_humidity : (bitRiseDone s).humidity = s.humidity := rfl
@[simp] theorem bitRiseDone_temperature : (bitRiseDone s).temperature = s.temperature := rfl
@[simp] theorem bitRiseDone_pinerr : (bitRiseDone s).pinerr = s.pinerr := rfl
@[simp] theorem bitRiseDone_ecnt : (bitRiseDone s).ecnt = 0 := rfl
@[simp] theorem bitRiseDone_dcnt : (bitRiseDone s).dcnt = s.dcnt := rfl
@[simp] theorem bitRiseDone_lineCmd : (bitRiseDone s).lineCmd = s.lineCmd := rfl
@[simp] theorem bitRiseDone_port : (bitRiseDone s).port = s.port := rfl
@[simp] theorem bitRiseDone_awaitTick : (bitRiseDone s).awaitTick = s.awaitTick := rfl
@[simp] theorem bitRiseDone_rdata : (bitRiseDone s).rdata = s.rdata := rfl
@[simp] theorem bitRiseDone_turns : (bitRiseDone s).turns = s.turns := rfl
@[simp] theorem bitRiseDone_line : (bitRiseDone s).line = s.line := rfl
@[simp] theorem bitRiseDone_lineDraws : (bitRiseDone s).lineDraws = s.lineDraws := rfl
@[simp] theorem bitRiseDone_ticks : (bitRiseDone s).ticks = s.ticks := rfl
@[simp] theorem bitRiseDone_tickDraws : (bitRiseDone s).tickDraws = s.tickDraws := rfl

/-! ### bitHighDone -/

@[simp] theorem bitHighDone_params : (bitHighDone s).params = s.params := rfl
@[simp] theorem bitHighDone_phase : (bitHighDone s).phase = if s.bitcnt + 1 = 40 then phaseCode .check else phaseCode .bitRise := rfl
@[simp] theorem bitHighDone_lvar : (bitHighDone s).lvar = s.lvar := rfl
@[simp] theorem bitHighDone_variant : (bitHighDone s).variant = s.variant := rfl
@[simp] theorem bitHighDone_valid : (bitHighDone s).valid = s.valid := rfl
@[simp] theorem bitHighDone_err : (bitHighDone s).err = s.err := rfl
@[simp] theorem bitHighDone_bitcnt : (bitHighDone s).bitcnt = s.bitcnt + 1 := rfl
@[simp] theorem bitHighDone_pinop : (bitHighDone s).pinop = s.pinop := rfl
@[simp] theorem bitHighDone_frame : (bitHighDone s).frame = storeFrameBit s.frame s.bitcnt.toNat (classify s.params s.ecnt) := rfl
@[simp] theorem bitHighDone_cksumReceived : (bitHighDone s).cksumReceived = s.cksumReceived := rfl
@[simp] theorem bitHighDone_cksumCalc : (bitHighDone s).cksumCalc = s.cksumCalc := rfl
@[simp] theorem bitHighDone_ckv : (bitHighDone s).ckv = s.ckv := rfl
@[simp] theorem bitHighDone_humidity : (bitHighDone s).humidity = s.humidity := rfl
@[simp] theorem bitHighDone_temperature : (bitHighDone s).temperature = s.temperature := rfl
@[simp] theorem bitHighDone_pinerr : (bitHighDone s).pinerr = s.pinerr := rfl
@[simp] theorem bitHighDone_ecnt : (bitHighDone s).ecnt = 0 := rfl
@[simp] theorem bitHighDone_dcnt : (bitHighDone s).dcnt = s.dcnt := rfl
@[simp] theorem bitHighDone_lineCmd : (bitHighDone s).lineCmd = s.lineCmd := rfl
@[simp] theorem bitHighDone_port : (bitHighDone s).port = s.port := rfl
@[simp] theorem bitHighDone_awaitTick : (bitHighDone s).awaitTick = s.awaitTick := rfl
@[simp] theorem bitHighDone_rdata : (bitHighDone s).rdata = s.rdata := rfl
@[simp] theorem bitHighDone_turns : (bitHighDone s).turns = s.turns := rfl
@[simp] theorem bitHighDone_line : (bitHighDone s).line = s.line := rfl
@[simp] theorem bitHighDone_lineDraws : (bitHighDone s).lineDraws = s.lineDraws := rfl
@[simp] theorem bitHighDone_ticks : (bitHighDone s).ticks = s.ticks := rfl
@[simp] theorem bitHighDone_tickDraws : (bitHighDone s).tickDraws = s.tickDraws := rfl

/-! ### resetBlock -/

@[simp] theorem resetBlock_params : (resetBlock s).params = s.params := rfl
@[simp] theorem resetBlock_phase : (resetBlock s).phase = 0 := rfl
@[simp] theorem resetBlock_lvar : (resetBlock s).lvar = 0 := rfl
@[simp] theorem resetBlock_variant : (resetBlock s).variant = 0 := rfl
@[simp] theorem resetBlock_valid : (resetBlock s).valid = 0 := rfl
@[simp] theorem resetBlock_err : (resetBlock s).err = 0 := rfl
@[simp] theorem resetBlock_bitcnt : (resetBlock s).bitcnt = 0 := rfl
@[simp] theorem resetBlock_pinop : (resetBlock s).pinop = 0 := rfl
@[simp] theorem resetBlock_frame : (resetBlock s).frame = 0 := rfl
@[simp] theorem resetBlock_cksumReceived : (resetBlock s).cksumReceived = 0 := rfl
@[simp] theorem resetBlock_cksumCalc : (resetBlock s).cksumCalc = 0 := rfl
@[simp] theorem resetBlock_ckv : (resetBlock s).ckv = 0 := rfl
@[simp] theorem resetBlock_humidity : (resetBlock s).humidity = 0 := rfl
@[simp] theorem resetBlock_temperature : (resetBlock s).temperature = 0 := rfl
@[simp] theorem resetBlock_pinerr : (resetBlock s).pinerr = 0 := rfl
@[simp] theorem resetBlock_ecnt : (resetBlock s).ecnt = 0 := rfl
@[simp] theorem resetBlock_dcnt : (resetBlock s).dcnt = 0 := rfl
@[simp] theorem resetBlock_lineCmd : (resetBlock s).lineCmd = .unset := rfl
@[simp] theorem resetBlock_port : (resetBlock s).port = 0 := rfl
@[simp] theorem resetBlock_awaitTick : (resetBlock s).awaitTick = false := rfl
@[simp] theorem resetBlock_rdata : (resetBlock s).rdata = 0 := rfl
@[simp] theorem resetBlock_turns : (resetBlock s).turns = s.turns := rfl
@[simp] theorem resetBlock_line : (resetBlock s).line = s.line := rfl
@[simp] theorem resetBlock_lineDraws : (resetBlock s).lineDraws = s.lineDraws := rfl
@[simp] theorem resetBlock_ticks : (resetBlock s).ticks = s.ticks := rfl
@[simp] theorem resetBlock_tickDraws : (resetBlock s).tickDraws = s.tickDraws := rfl

/-! ### raiseError -/

@[simp] theorem raiseError_params (e : ErrKind) : (raiseError e s).params = s.params := by cases e <;> rfl
@[simp] theorem raiseError_phase (e : ErrKind) : (raiseError e s).phase = phaseCode .complete := by cases e <;> rfl
@[simp] theorem raiseError_lvar (e : ErrKind) : (raiseError e s).lvar = s.lvar := by cases e <;> rfl
@[simp] theorem raiseError_variant (e : ErrKind) : (raiseError e s).variant = s.variant := by cases e <;> rfl
@[simp] theorem raiseError_valid (e : ErrKind) : (raiseError e s).valid = 0 := by cases e <;> rfl
@[simp] theorem raiseError_err (e : ErrKind) : (raiseError e s).err = errCode e := by cases e <;> rfl
@[simp] theorem raiseError_bitcnt (e : ErrKind) : (raiseError e s).bitcnt = s.bitcnt := by cases e <;> rfl
@[simp] theorem raiseError_frame (e : ErrKind) : (raiseError e s).frame = s.frame := by cases e <;> rfl
@[simp] theorem raiseError_cksumReceived (e : ErrKind) : (raiseError e s).cksumReceived = s.cksumReceived := by cases e <;> rfl
@[simp] theorem raiseError_cksumCalc (e : ErrKind) : (raiseError e s).cksumCalc = s.cksumCalc := by cases e <;> rfl
@[simp] theorem raiseError_ckv (e : ErrKind) : (raiseError e s).ckv = s.ckv := by cases e <;> rfl
@[simp] theorem raiseError_humidity (e : ErrKind) : (raiseError e s).humidity = s.humidity := by cases e <;> rfl
@[simp] theorem raiseError_temperature (e : ErrKind) : (raiseError e s).temperature = s.temperature := by cases e <;> rfl
@[simp] theorem raiseError_ecnt (e : ErrKind) : (raiseError e s).ecnt = s.ecnt := by cases e <;> rfl
@[simp] theorem raiseError_dcnt (e : ErrKind) : (raiseError e s).dcnt = s.dcnt := by cases e <;> rfl
@[simp] theorem raiseError_lineCmd (e : ErrKind) : (raiseError e s).lineCmd = s.lineCmd := by cases e <;> rfl
@[simp] theorem raiseError_port (e : ErrKind) : (raiseError e s).port = s.port := by cases e <;> rfl
@[simp] theorem raiseError_awaitTick (e : ErrKind) : (raiseError e s).awaitTick = s.awaitTick := by cases e <;> rfl
@[simp] theorem raiseError_rdata (e : ErrKind) : (raiseError e s).rdata = s.rdata := by cases e <;> rfl
@[simp] theorem raiseError_turns (e : ErrKind) : (raiseError e s).turns = s.turns := by cases e <;> rfl
@[simp] theorem raiseError_line (e : ErrKind) : (raiseError e s).line = s.line := by cases e <;> rfl
@[simp] theorem raiseError_lineDraws (e : ErrKind) : (raiseError e s).lineDraws = s.lineDraws := by cases e <;> rfl
@[simp] theorem raiseError_ticks (e : ErrKind) : (raiseError e s).ticks = s.ticks := by cases e <;> rfl
@[simp] theorem raiseError_tickDraws (e : ErrKind) : (raiseError e s).tickDraws = s.tickDraws := by cases e <;> rfl

@[simp] theorem raiseError_pinop (e : ErrKind) : (raiseError e s).pinop =
    match e with
    | .pinError _ op => pinCode op
    | _ => s.pinop := by
  cases e <;> rfl

@[simp] theorem raiseError_pinerr (e : ErrKind) : (raiseError e s).pinerr =
    match e with
    | .pinError p _ => pinPayload s.params.pinErrW p
    | _ => s.pinerr := by
  cases e <;> rfl

/-! ### startRead -/

theorem startRead_busy (h : busy s = true) : startRead s = s := by simp [startRead, h]

theorem startRead_not_busy (h : busy s = false) :
    startRead s =
      { s with
        lvar := s.variant, frame := 0, bitcnt := 0, valid := 0, err := 0, pinop := 0, pinerr := 0,
        cksumReceived := 0, cksumCalc := 0, ckv := 0, humidity := 0, temperature := 0, ecnt := 0,
        dcnt := 0, phase := phaseCode .wakeLow } := by
  simp [startRead, h]

end Sys2Proof.Machine
end

