-- ==== Sys2Proof/Laws/Ops.lean ====
section
/-! SUPPORT. One lemma per shared operation that says everything it can do. -/

namespace Sys2Proof.Machine

theorem nextReply_cons {s : State} {r : PinReply} {rest : List PinReply} (h : s.line = r :: rest) :
    nextReply s = r := by
  simp [nextReply, h]

theorem nextTick_cons {s : State} {b : Bool} {rest : List Bool} (h : s.ticks = b :: rest) :
    nextTick s = b := by
  simp [nextTick, h]

theorem pinTx_ok {s : State} {b : Bool} (op : PinOp) (k : Bool → State → State)
    (h : nextReply s = .ok b) : pinTx op k s = k b { takeReply s with port := 0 } := by
  simp [pinTx, h]

theorem pinTx_err {s : State} {p : Word} (op : PinOp) (k : Bool → State → State)
    (h : nextReply s = .err p) :
    pinTx op k s = raiseError (.pinError p op) { takeReply s with port := 0 } := by
  simp [pinTx, h]

theorem pinTx_silent {s : State} (op : PinOp) (k : Bool → State → State)
    (h : nextReply s = .silent) : pinTx op k s = { takeReply s with port := pinCode op } := by
  simp [pinTx, h]

/-- All that a pin transaction can do. -/
theorem pinTx_cases (op : PinOp) (k : Bool → State → State) (s : State) :
    (∃ b, nextReply s = .ok b ∧ pinTx op k s = k b { takeReply s with port := 0 }) ∨
    (∃ p, nextReply s = .err p ∧
      pinTx op k s = raiseError (.pinError p op) { takeReply s with port := 0 }) ∨
    (nextReply s = .silent ∧ pinTx op k s = { takeReply s with port := pinCode op }) := by
  cases h : nextReply s with
  | ok b => exact .inl ⟨b, rfl, pinTx_ok op k h⟩
  | err p => exact .inr (.inl ⟨p, rfl, pinTx_err op k h⟩)
  | silent => exact .inr (.inr ⟨rfl, pinTx_silent op k h⟩)

theorem onTick_true {s : State} (k w : State → State) (h : nextTick s = true) :
    onTick k w s = k (takeTick s) := by
  simp [onTick, h]

theorem onTick_false {s : State} (k w : State → State) (h : nextTick s = false) :
    onTick k w s = w (takeTick s) := by
  simp [onTick, h]

theorem countFailed_last {s : State} {n : Nat} (e : ErrKind) (h : s.ecnt.toNat + 1 = n) :
    countFailed n e s = raiseError e { s with ecnt := s.ecnt + 1, awaitTick := false } := by
  simp [countFailed, h]

theorem countFailed_more {s : State} {n : Nat} (e : ErrKind) (h : s.ecnt.toNat + 1 ≠ n) :
    countFailed n e s = { s with ecnt := s.ecnt + 1, awaitTick := false } := by
  simp [countFailed, h]

/-- All that a failed sample can do. -/
theorem failedSample_cases (n : Nat) (e : ErrKind) (s : State) :
    (nextTick s = false ∧ failedSample n e s = { takeTick s with awaitTick := true }) ∨
    (nextTick s = true ∧ s.ecnt.toNat + 1 = n ∧
      failedSample n e s =
        raiseError e { takeTick s with ecnt := s.ecnt + 1, awaitTick := false }) ∨
    (nextTick s = true ∧ s.ecnt.toNat + 1 ≠ n ∧
      failedSample n e s = { takeTick s with ecnt := s.ecnt + 1, awaitTick := false }) := by
  cases h : nextTick s with
  | false => exact .inl ⟨rfl, onTick_false _ _ h⟩
  | true =>
    have hk : failedSample n e s = countFailed n e (takeTick s) := onTick_true _ _ h
    by_cases hn : s.ecnt.toNat + 1 = n
    · exact .inr (.inl ⟨rfl, hn, hk.trans (countFailed_last e hn)⟩)
    · exact .inr (.inr ⟨rfl, hn, hk.trans (countFailed_more e hn)⟩)

/-- All that one step of a poll can do: it waits for the tick of a failed sample, or it samples. -/
theorem pollStep_cases (level : PulseLevel) (n : Nat) (e : ErrKind) (success : State → State)
    (s : State) :
    (s.awaitTick = true ∧ pollStep level n e success s = failedSample n e s) ∨
    (s.awaitTick = false ∧ nextReply s = .ok true ∧
      pollStep level n e success s = success { takeReply s with port := 0 }) ∨
    (s.awaitTick = false ∧ nextReply s = .ok false ∧
      pollStep level n e success s = failedSample n e { takeReply s with port := 0 }) ∨
    (∃ p, s.awaitTick = false ∧ nextReply s = .err p ∧
      pollStep level n e success s =
        raiseError (.pinError p (sampleOp level)) { takeReply s with port := 0 }) ∨
    (s.awaitTick = false ∧ nextReply s = .silent ∧
      pollStep level n e success s = { takeReply s with port := pinCode (sampleOp level) }) := by
  cases ha : s.awaitTick with
  | true => exact .inl ⟨rfl, by simp [pollStep, ha]⟩
  | false =>
    have hp : pollStep level n e success s =
        pinTx (sampleOp level) (sampled n e success) s := by simp [pollStep, ha]
    obtain ⟨b, hb, h⟩ | ⟨p, hr, h⟩ | ⟨hr, h⟩ := pinTx_cases (sampleOp level) (sampled n e success) s
    · cases b with
      | true => exact .inr (.inl ⟨rfl, hb, hp.trans h⟩)
      | false => exact .inr (.inr (.inl ⟨rfl, hb, hp.trans h⟩))
    · exact .inr (.inr (.inr (.inl ⟨p, rfl, hr, hp.trans h⟩)))
    · exact .inr (.inr (.inr (.inr ⟨rfl, hr, hp.trans h⟩)))

/-- All that one step of a delay can do. -/
theorem delayStep_cases (finish : State → State) (s : State) :
    (nextTick s = false ∧ delayStep finish s = takeTick s) ∨
    (nextTick s = true ∧ s.dcnt - 1 = 0 ∧
      delayStep finish s = finish { takeTick s with dcnt := s.dcnt - 1 }) ∨
    (nextTick s = true ∧ s.dcnt - 1 ≠ 0 ∧
      delayStep finish s = { takeTick s with dcnt := s.dcnt - 1 }) := by
  cases h : nextTick s with
  | false => exact .inl ⟨rfl, onTick_false _ _ h⟩
  | true =>
    have hk : delayStep finish s = countDelay finish (takeTick s) := onTick_true _ _ h
    by_cases hd : s.dcnt - 1 = 0
    · refine .inr (.inl ⟨rfl, hd, hk.trans ?_⟩)
      simp only [countDelay, takeTick_dcnt, hd, if_true]
    · refine .inr (.inr ⟨rfl, hd, hk.trans ?_⟩)
      simp only [countDelay, takeTick_dcnt, hd, if_false]

theorem checkFrame_pass {s : State} (h : frameByte s.frame 4 = checksum s.frame) :
    checkFrame s =
      { s with
        cksumReceived := frameByte s.frame 4, cksumCalc := checksum s.frame, ckv := 1,
        phase := phaseCode .decode } := by
  simp only [checkFrame, h, if_true]

theorem checkFrame_fail {s : State} (h : frameByte s.frame 4 ≠ checksum s.frame) :
    checkFrame s =
      raiseError .checksumMismatch
        { s with
          cksumReceived := frameByte s.frame 4, cksumCalc := checksum s.frame, ckv := 1 } := by
  simp only [checkFrame, h, if_false]

theorem decodeStep_inRange {s : State} (h : humidityInRange (decodeFrame s.lvar s.frame).1 = true) :
    decodeStep s =
      succeed (decodeFrame s.lvar s.frame).1 (decodeFrame s.lvar s.frame).2 s := by
  simp only [decodeStep, h, if_true]

theorem decodeStep_outOfRange {s : State}
    (h : humidityInRange (decodeFrame s.lvar s.frame).1 = false) :
    decodeStep s = raiseError .invalidData s := by
  simp [decodeStep, h]

end Sys2Proof.Machine
end

