-- ==== Sys2Proof/Laws/Safety.lean ====
section
/-! SUPPORT. Which fields `Sound` looks at: states that agree on them are sound together. -/

namespace Sys2Proof.Machine

/-- The fields that `Sound` looks at. -/
def soundFields (s : State) :
    (Params × BitVec 4 × BitVec 1 × BitVec 3 × BitVec 6) × (BitVec 3 × Byte × Byte × BitVec 1) ×
      (Word × BitVec 3 × Bool) :=
  ((s.params, s.phase, s.valid, s.err, s.bitcnt), (s.pinop, s.cksumReceived, s.cksumCalc, s.ckv),
    (s.humidity, s.port, s.awaitTick))

/-- A state that agrees with a sound one on those fields is sound. -/
theorem Sound.of_soundFields {s t : State} (h : Sound s) (e : soundFields t = soundFields s) :
    Sound t := by
  obtain ⟨⟨a, b, c, d, f, g, i⟩, j, k, l, m, n, o, p, q, r, u⟩ := h
  cases s
  cases t
  simp only [soundFields, Prod.mk.injEq] at e
  obtain ⟨⟨rfl, rfl, rfl, rfl, rfl⟩, ⟨rfl, rfl, rfl, rfl⟩, rfl, rfl, rfl⟩ := e
  exact ⟨⟨a, b, c, d, f, g, i⟩, j, k, l, m, n, o, p, q, r, u⟩

end Sys2Proof.Machine
end

