-- ==== Sys2Proof/Laws/Step.lean ====
section
/-! SUPPORT. What a step can do, said once: which operation it runs, and that no meaning stops. -/

namespace Sys2Proof.Machine

/-- Every meaning answers a next state: no arm of `exec` stops. -/
theorem exec_next (i : Instr) (s : State) : ∃ t, exec i s = .next t := by
  cases i <;> exact ⟨_, rfl⟩

/-- What a controller step that answers a next state ran. -/
theorem fetchController_run {s : State} {i : Instr} {u : State} (h : fetchController s = .run i u) :
    u = s ∧ ((s.port = 0 ∧ decodePhase s.phase = .ok i) ∨ (s.port ≠ 0 ∧ decodePin s.port = .ok i)) := by
  unfold fetchController at h
  split at h
  · rename_i hp
    split at h
    · rename_i j hj
      cases h
      exact ⟨rfl, .inl ⟨hp, hj⟩⟩
    · cases h
  · rename_i hp
    split at h
    · rename_i j hj
      cases h
      exact ⟨rfl, .inr ⟨hp, hj⟩⟩
    · cases h

/-- The state once the turn that a step uses up, if one is listed, is taken off. -/
def afterTurn (s : State) : State := { s with turns := s.turns.tail }

theorem afterTurn_nil {s : State} (h : s.turns = []) : afterTurn s = s := by
  cases s
  cases h
  rfl

/-- What a step finds to do, by the turn. -/
theorem fetch_turn {s : State} (hok : s.params.ok = true) :
    (∀ w ts, s.turns = .host w :: ts → fetch s = .run (decodeHbus w) (afterTurn s)) ∧
    (∀ ts, s.turns = .reset :: ts → fetch s = .reset (afterTurn s)) ∧
    ((s.turns = [] ∨ ∃ ts, s.turns = .controller :: ts) → fetch s = fetchController (afterTurn s)) := by
  refine ⟨fun w ts h => ?_, fun ts h => ?_, ?_⟩
  · simp [fetch, hok, h, afterTurn]
  · simp [fetch, hok, h, afterTurn]
  · rintro (h | ⟨ts, h⟩)
    · rw [afterTurn_nil h]
      simp [fetch, hok, h]
    · simp [fetch, hok, h, afterTurn]

/-- A step that answers a next state: a host access, a reset, or a controller step on the phase or on
the transaction that waits on the port. -/
theorem step_cases {s t : State} (h : step s = .next t) :
    s.params.ok = true ∧
    ((∃ w ts, s.turns = .host w :: ts ∧ exec (decodeHbus w) (afterTurn s) = .next t) ∨
     (∃ ts, s.turns = .reset :: ts ∧ t = resetBlock (afterTurn s)) ∨
     ((s.turns = [] ∨ ∃ ts, s.turns = .controller :: ts) ∧ s.port = 0 ∧
       ∃ i, decodePhase s.phase = .ok i ∧ exec i (afterTurn s) = .next t) ∨
     ((s.turns = [] ∨ ∃ ts, s.turns = .controller :: ts) ∧ s.port ≠ 0 ∧
       ∃ i, decodePin s.port = .ok i ∧ exec i (afterTurn s) = .next t)) := by
  unfold step at h
  cases hok : s.params.ok with
  | false => simp [fetch, hok] at h
  | true =>
    obtain ⟨hhost, hreset, hctrl⟩ := fetch_turn hok
    refine ⟨rfl, ?_⟩
    by_cases hh : ∃ w ts, s.turns = .host w :: ts
    · obtain ⟨w, ts, hw⟩ := hh
      rw [hhost w ts hw] at h
      exact .inl ⟨w, ts, hw, h⟩
    by_cases hr : ∃ ts, s.turns = .reset :: ts
    · obtain ⟨ts, hw⟩ := hr
      rw [hreset ts hw] at h
      cases h
      exact .inr (.inl ⟨ts, hw, rfl⟩)
    have hc : s.turns = [] ∨ ∃ ts, s.turns = .controller :: ts := by
      match hs : s.turns with
      | [] => exact .inl rfl
      | .host w :: ts => exact absurd ⟨w, ts, hs⟩ hh
      | .reset :: ts => exact absurd ⟨ts, hs⟩ hr
      | .controller :: ts => exact .inr ⟨ts, rfl⟩
    rw [hctrl hc] at h
    cases hf : fetchController (afterTurn s) with
    | run i u =>
      rw [hf] at h
      obtain ⟨rfl, ⟨hp, hd⟩ | ⟨hp, hd⟩⟩ := fetchController_run hf
      · exact .inr (.inr (.inl ⟨hc, hp, i, hd, h⟩))
      · exact .inr (.inr (.inr ⟨hc, hp, i, hd, h⟩))
    | reset u =>
      unfold fetchController at hf
      split at hf <;> split at hf <;> cases hf
    | fault r => rw [hf] at h; cases h
    | refused r => rw [hf] at h; cases h

end Sys2Proof.Machine
end

