-- ==== Sys2Proof/Tests/Slice0.lean ====
section
/-! SUPPORT. The model's own tests. Expected values are those of spec/95_test_vectors.md (the vector's
name stands at the test) or of the encoding tables of spec/30_encoding.md. Then, for every statement of
Certificates/Slice0/Obligations.lean that has hypotheses, a witness: a concrete state that meets them all. -/

namespace Sys2Proof.Tests

open Sys2Proof Sys2Proof.Machine

/-! ## Helpers -/

/-- The next state of an outcome, if it is one. -/
def nextState (o : Host.Outcome State Fault Refusal) : Option State :=
  match o with
  | .next t => some t
  | .fault _ => none
  | .refused _ => none

/-- One view of the next state. -/
def view {α : Type} (f : State → α) (o : Host.Outcome State Fault Refusal) : Option α :=
  (nextState o).map f

/-- A state in a phase, with the line as told on the way there. -/
def inPhase (ph : BitVec 4) : State :=
  { State.reset with
    phase := ph
    lineCmd := if ph.toNat ≤ 1 then .unset else if ph.toNat ≤ 3 then .low else .high }

/-- A state in a phase, with an elapsed count, one answer and one tick to come. -/
def polls (ph : BitVec 4) (e : BitVec 16) (r : PinReply) : State :=
  { inPhase ph with ecnt := e, line := [r], ticks := [true] }

/-- A poll whose transaction waits on the port. -/
def waits (op : BitVec 3) (ph : BitVec 4) (e : BitVec 16) (r : PinReply) : State :=
  { polls ph e r with port := op }

/-- A state in a delay phase, with a count and one tick to come. -/
def delays (ph : BitVec 4) (d : BitVec 16) : State :=
  { inPhase ph with dcnt := d, ticks := [true] }

/-- BIT_RISE of bit 17, with bits 0..16 of D-B8 in place. -/
def rise17 : State :=
  { inPhase 7 with bitcnt := 17, frame := 0x028C000000, line := [.ok true], ticks := [true] }

/-- BIT_HIGH of bit 39 of the frame of P1, its elapsed count at the threshold. -/
def high39 : State :=
  { inPhase 8 with
    lvar := 1, bitcnt := 39, frame := 0x028C0111A0, ecnt := 30, line := [.ok true], ticks := [true] }

/-- CHECK, with all bits of a frame in place. -/
def checks (lvar : BitVec 1) (f : BitVec 40) : State :=
  { inPhase 9 with lvar := lvar, bitcnt := 40, frame := f }

/-- DECODE, with a frame and its checksum in place. -/
def decodes (lvar : BitVec 1) (f : BitVec 40) (c : Byte) : State :=
  { inPhase 10 with
    lvar := lvar, bitcnt := 40, frame := f, cksumReceived := c, cksumCalc := c, ckv := 1 }

/-- The end state of program P1. -/
def p1End : State :=
  { inPhase 11 with
    lvar := 1, variant := 1, valid := 1, bitcnt := 40, frame := 0x028C0111A0, cksumReceived := 0xA0,
    cksumCalc := 0xA0, ckv := 1, humidity := 0x42826666, temperature := 0x41DA6666 }

/-- The end state of the first read of program P2. -/
def p2End : State :=
  { inPhase 11 with err := 2, bitcnt := 40, frame := 0x3200230000, cksumCalc := 0x55, ckv := 1 }

/-- The end state of program P7. -/
def p7End : State := { inPhase 11 with err := 5, pinop := 4, pinerr := 0x2A }

/-! ## WellFormed refuses each ill-formed term -/

theorem test_wf_refuses_start_with_bit0_clear : (Instr.wrCtrlStart 0xFFFFFFFE).wf = false := by decide
theorem test_wf_refuses_nop_with_bit0_set : (Instr.wrCtrlNop 1).wf = false := by decide
theorem test_wf_refuses_rd_row10_below : (Instr.rdRsvd10 9 0).wf = false := by decide
theorem test_wf_refuses_rd_row10_above : (Instr.rdRsvd10 12 0).wf = false := by decide
theorem test_wf_refuses_rd_row12_below : (Instr.rdRsvd12 11 0).wf = false := by decide
theorem test_wf_refuses_wr_row10_below : (Instr.wrRsvd10 9 0).wf = false := by decide
theorem test_wf_refuses_wr_row10_above : (Instr.wrRsvd10 12 0).wf = false := by decide
theorem test_wf_refuses_wr_row12_below : (Instr.wrRsvd12 11 0).wf = false := by decide

/-! ## Decoding: every constructor's word, written out from R81, R82, R85 and R87 -/

/-- D-E6, D-E16, D-E7 to D-E14 and the other reads of R82: WE = 0, IDX, WDATA. -/
theorem test_decode_reads :
    ∀ q ∈ [(0x0000000000#37, Instr.rdCtrl 0), (0x01DEADBEEF, .rdConfig 0xDEADBEEF),
        (0x0200000000, .rdStatus 0), (0x0300000000, .rdFrameLo 0), (0x0400000000, .rdFrameHi 0),
        (0x0500000000, .rdCksum 0), (0x0600000000, .rdHumidity 0), (0x0700000000, .rdTemperature 0),
        (0x0800000000, .rdPinerr 0), (0x0900000000, .rdRsvd9 0), (0x0A00000001, .rdRsvd10 10 1),
        (0x0B00000000, .rdRsvd10 11 0), (0x0C00000000, .rdRsvd12 12 0), (0x0F00000002, .rdRsvd12 15 2)],
      decodeHbus q.1 = q.2 := by decide

/-- D-E1 to D-E5 and D-E15, and the other writes of R82: WE = 1. -/
theorem test_decode_writes :
    ∀ q ∈ [(0x1000000001#37, Instr.wrCtrlStart 1), (0x10FFFFFFFE, .wrCtrlNop 0xFFFFFFFE),
        (0x1000000003, .wrCtrlStart 3), (0x1100000001, .wrConfig 1), (0x1100000000, .wrConfig 0),
        (0x1200000000, .wrStatus 0), (0x1300000000, .wrFrameLo 0), (0x1400000000, .wrFrameHi 0),
        (0x1500000000, .wrCksum 0), (0x1600000000, .wrHumidity 0), (0x1700000000, .wrTemperature 0),
        (0x1800000001, .wrPinerr 1), (0x1900000001, .wrRsvd9 1), (0x1A00000000, .wrRsvd10 10 0),
        (0x1B00000000, .wrRsvd10 11 0), (0x1C00000000, .wrRsvd12 12 0),
        (0x1FFFFFFFFF, .wrRsvd12 15 0xFFFFFFFF)],
      decodeHbus q.1 = q.2 := by decide

/-- R85, as 3-bit table words. -/
theorem test_decode_pin :
    [0b000, 0b001, 0b010, 0b011, 0b100, 0b101, 0b111].map (decodeTableWord 3) =
      [none, some .pinSetLow, some .pinSetHigh, some .pinIsHigh, some .pinIsLow, none, none] := by
  decide

/-- R87, as 4-bit table words. -/
theorem test_decode_phase :
    [0x0, 0x1, 0x2, 0x3, 0x4, 0x5, 0x6, 0x7].map (decodeTableWord 4) =
      [some .phaseIdle, some .phaseWakeLow, some .phaseWakeHold, some .phaseWakeRelease,
        some .phaseWakeSettle, some .phasePresHigh, some .phasePresLow, some .phaseBitRise] ∧
    [0x8, 0x9, 0xA, 0xB, 0xC, 0xF].map (decodeTableWord 4) =
      [some .phaseBitHigh, some .phaseCheck, some .phaseDecode, some .phaseComplete, none, none] := by
  decide

/-- D-E1 as a 40-bit table word; a bit above the 37 is refused (R93). -/
theorem test_decodeTableWord_hbus :
    decodeTableWord 40 0x1000000001 = some (.wrCtrlStart 1) ∧ decodeTableWord 40 0x2000000000 = none := by
  decide

/-- Log 5: one byte is read as a PHASE code. -/
theorem test_decodeTableWord_byte : decodeTableWord 8 0x0A = some .phaseDecode := by decide

/-- The word that withFetchWord places is the next step's. -/
theorem test_withFetchWord :
    view (·.rdata) (step ({ p1End with turns := [.reset] }.withFetchWord 40 0x0200000000)) =
      some 0x0B012806 := by decide

/-- A host access encodes as D-E4 and D-E7 say (R94), and `wait.done` ends on DONE (R95). -/
theorem test_script_words :
    wrWord .config 1 = 0x1100000001 ∧ rdWord .status = 0x0200000000 ∧
    waitDoneEnds 0x0B012806 = true ∧ waitDoneEnds 0x01010001 = false := by decide

/-- R96: `b0` is P(50) P(24), and B(x) sends the most significant bit first. -/
theorem test_script_replies :
    (scriptReplies (scriptBit false)).length = 76 ∧
    scriptByte 0x80 = scriptBit true ++ scriptBytes [] ++ (List.replicate 7 (scriptBit false)).flatten := by
  decide

/-! ## STATUS assembly (D-E17 to D-E21) -/

theorem test_status_DE17 : statusWord p1End = 0x0B012806 := by decide
theorem test_status_DE18 : statusWord p2End = 0x0B002822 := by decide
theorem test_status_DE19 : statusWord p7End = 0x0B400052 := by decide
theorem test_status_DE20 : statusWord (inPhase 1) = 0x01000001 := by decide
theorem test_status_DE21 : statusWord State.reset = 0 := by decide

/-! ## Host access -/

/-- P1's reads, in its order, with RD.CTRL and the reserved reads (D-H2). -/
theorem test_reads_P1 :
    [Instr.rdStatus 0, .rdFrameLo 0, .rdFrameHi 0, .rdCksum 0].map (fun i => view (·.rdata) (exec i p1End)) =
      [some 0x0B012806, some 0x028C0111, some 0xA0, some 0x0001A0A0] ∧
    [Instr.rdHumidity 0, .rdTemperature 0, .rdPinerr 0, .rdConfig 0].map
        (fun i => view (·.rdata) (exec i p1End)) =
      [some 0x42826666, some 0x41DA6666, some 0, some 1] ∧
    [Instr.rdCtrl 0, .rdRsvd9 0, .rdRsvd10 10 0, .rdRsvd12 12 0].map
        (fun i => view (·.rdata) (exec i { p1End with rdata := 7 })) = [some 0, some 0, some 0, some 0] := by
  decide

/-- P7: RD.PINERR. -/
theorem test_rd_pinerr_P7 : view (·.rdata) (exec (.rdPinerr 0) p7End) = some 0x2A := by decide

/-- D-H4: START latches VARIANT. -/
theorem test_start_DH4 :
    view statusWord (exec (.wrCtrlStart 1) { State.reset with variant := 1 }) = some 0x01010001 := by
  decide

/-- D-H11: a second START clears the last read. -/
theorem test_start_DH11 :
    view (fun t => (statusWord t, frameLo t, frameHi t, cksumWord t, t.humidity, t.temperature, t.pinerr))
      (exec (.wrCtrlStart 1) p1End) = some (0x01010001, 0, 0, 0, 0, 0, 0) := by decide

/-- D-H6: WR.CONFIG is dropped while BUSY. -/
theorem test_config_DH6 : view configWord (exec (.wrConfig 1) (inPhase 1)) = some 0 := by decide

/-- D-H7: only WDATA[0] counts. -/
theorem test_config_DH7 :
    view configWord (exec (.wrConfig 0xFFFFFFFF) State.reset) = some 1 ∧
    view configWord (exec (.wrConfig 0xFFFFFFFE) p1End) = some 0 := by decide

/-- D-H9 and D-H10. -/
theorem test_ignored_writes_DH9 :
    ∀ i ∈ [Instr.wrCtrlNop 0, .wrStatus 0xFFFFFFFF, .wrFrameLo 0, .wrFrameHi 0, .wrCksum 0, .wrHumidity 0,
        .wrTemperature 0, .wrPinerr 1, .wrRsvd9 1, .wrRsvd10 10 1, .wrRsvd12 15 0xFFFFFFFF],
      view id (exec i p1End) = some p1End := by decide

/-! ## Pin transactions and phases -/

/-- D-W1. -/
theorem test_wakeLow_DW1 :
    view (fun t => (statusWord t, t.dcnt, t.lineCmd)) (step (polls 1 0 (.ok true))) =
      some (0x02000001, 3000, .low) := by decide

/-- D-W9: the line stays as it was. -/
theorem test_wakeLow_DW9 :
    view (fun t => (statusWord t, t.pinerr, t.lineCmd)) (step (polls 1 0 (.err 5))) =
      some (0x0B100052, 5, .unset) := by decide

/-- D-W2: the last tick of the hold. -/
theorem test_wakeHold_DW2 : view statusWord (step (delays 2 1)) = some 0x03000001 := by decide

/-- D-W3. -/
theorem test_wakeRelease_DW3 :
    view (fun t => (statusWord t, t.dcnt, t.lineCmd)) (step (polls 3 0 (.ok true))) =
      some (0x04000001, 25, .high) := by decide

/-- D-W10: the line is not released. -/
theorem test_wakeRelease_DW10 :
    view (fun t => (statusWord t, t.pinerr, t.lineCmd)) (step (polls 3 0 (.err 7))) =
      some (0x0B200052, 7, .low) := by decide

/-- D-W4. -/
theorem test_wakeSettle_DW4 :
    view (fun t => (statusWord t, t.ecnt)) (step { delays 4 1 with ecnt := 9 }) = some (0x05000001, 0) := by
  decide

/-- D-W5 and D-W6: the 85th sample. -/
theorem test_presHigh_DW5_DW6 :
    view statusWord (step (polls 5 84 (.ok false))) = some 0x0B000012 ∧
    view statusWord (step (polls 5 84 (.ok true))) = some 0x06000001 := by decide

/-- D-W8: a fault on the last sample is PinError. -/
theorem test_presHigh_DW8 :
    view (fun t => (statusWord t, t.pinerr)) (step (polls 5 84 (.err 1))) = some (0x0B300052, 1) := by
  decide

/-- D-W7 and D-W11. -/
theorem test_presLow_DW7_DW11 :
    view statusWord (step (polls 6 84 (.ok false))) = some 0x0B000012 ∧
    view statusWord (step (polls 6 0 (.ok true))) = some 0x07000001 := by decide

/-- D-W12 and D-B6: the 55th sample. -/
theorem test_bitRise_DW12_DB6 :
    view statusWord (step (polls 7 54 (.ok false))) = some 0x0B000042 ∧
    view (·.phase) (step (polls 7 54 (.ok true))) = some 8 := by decide

/-- D-B8: Timeout at bit 17. -/
theorem test_bitRise_DB8 :
    view (fun t => (statusWord t, frameLo t))
      (step { rise17 with lvar := 1, ecnt := 54, line := [.ok false] }) =
        some (0x0B011142, 0x028C0000) := by decide

/-- D-B1 to D-B4: 0 and 30 give 0, 31 and 69 give 1. -/
theorem test_bitHigh_DB1_to_DB4 :
    [0#16, 30, 31, 69].map (fun e => view frameLo (step (polls 8 e (.ok true)))) =
      [some 0, some 0, some 0x80000000, some 0x80000000] := by decide

/-- D-B5 and D-B9. -/
theorem test_bitHigh_DB5_DB9 :
    view statusWord (step (polls 8 69 (.ok false))) = some 0x0B000042 ∧
    view (fun t => (statusWord t, t.pinerr)) (step (polls 8 10 (.err 0x2A))) =
      some (0x0B400052, 0x2A) := by decide

/-- D-A2: the last bit completes the frame. -/
theorem test_bitHigh_DA2 :
    view (fun t => (t.phase, t.bitcnt, frameLo t, frameHi t))
      (step { polls 8 68 (.ok true) with bitcnt := 39 }) = some (9, 40, 0, 1) := by decide

/-- A transaction that waited: each PIN operation ends the step of its phase (R86). -/
theorem test_pin_waited :
    view statusWord (step { polls 1 0 (.ok true) with port := 1 }) = some 0x02000001 ∧
    view statusWord (step { polls 3 0 (.ok true) with port := 2 }) = some 0x04000001 ∧
    view statusWord (step { polls 5 0 (.ok true) with port := 3 }) = some 0x06000001 ∧
    view statusWord (step { polls 6 0 (.ok true) with port := 4 }) = some 0x07000001 := by decide

/-- PINERR keeps the `PINERR_W` wires only (R36): 8 of them. -/
theorem test_pinerr_width :
    view (·.pinerr) (exec .pinIsLow
      { polls 8 0 (.err 0xABCD) with params := { Params.default with pinErrW := 8 } }) = some 0xCD := by
  decide

/-- D-C3 and D-C5. -/
theorem test_check_DC3_DC5 :
    view (fun t => (t.phase, cksumWord t)) (step (checks 0 0xFFFFFFFFFC)) = some (10, 0x0001FCFC) ∧
    view (fun t => (statusWord t, cksumWord t)) (step (checks 0 0xFFFFFFFFFF)) =
      some (0x0B002822, 0x0001FCFF) := by decide

/-- D-R1 and D-R2. -/
theorem test_decode_phase_DR1_DR2 :
    view (fun t => (statusWord t, t.humidity, t.temperature)) (step (decodes 0 0x6400140078 0x78)) =
      some (0x0B002806, 0x42C80000, 0x41A00000) ∧
    view (fun t => (statusWord t, t.humidity, t.temperature)) (step (decodes 0 0x6500140079 0x79)) =
      some (0x0B002832, 0, 0) := by decide

/-- D-R4 and D-R5. -/
theorem test_decode_phase_DR4_DR5 :
    view (fun t => (statusWord t, t.humidity, t.temperature)) (step (decodes 1 0x03E800FAE5 0xE5)) =
      some (0x0B012806, 0x42C80000, 0x41C80000) ∧
    view (fun t => (statusWord t, t.humidity, t.temperature)) (step (decodes 1 0x03E90000EC 0xEC)) =
      some (0x0B012832, 0, 0) := by decide

/-- R150. -/
theorem test_idle_complete :
    view id (step State.reset) = some State.reset ∧ view id (step p1End) = some p1End := by decide

/-! ## Decoders (D-D1 to D-D15) -/

theorem test_decodeA_table :
    decodeA 0x32 0xFF 0x23 0xFF = (0x42480000, 0x420C0000) ∧
    decodeA 0xFF 0x00 0x80 0x00 = (0x437F0000, 0x43000000) ∧
    decodeA 0x64 0x00 0xFF 0x00 = (0x42C80000, 0x437F0000) := by decide

theorem test_decodeB_table :
    decodeB 0x02 0x8C 0x81 0x11 = (0x42826666, 0xC1DA6666) ∧
    decodeB 0x00 0x00 0x80 0x00 = (0x00000000, 0x80000000) ∧
    decodeB 0x00 0x01 0x80 0x01 = (0x3DCCCCCD, 0xBDCCCCCD) ∧
    decodeB 0x03 0xE9 0x00 0x00 = (0x42C83333, 0x00000000) ∧
    decodeB 0x03 0xE7 0x00 0x20 = (0x42C7CCCD, 0x404CCCCD) ∧
    decodeB 0xFF 0xFF 0xFF 0xFF = (0x45CCCC00, 0xC54CCB33) := by decide

/-! ## Sound states, one per phase -/

theorem sound_idle : Sound State.reset := by constructor <;> first | decide | (constructor <;> decide)
theorem sound_phase1 : Sound (inPhase 1) := by constructor <;> first | decide | (constructor <;> decide)
theorem sound_phase2 : Sound (inPhase 2) := by constructor <;> first | decide | (constructor <;> decide)
theorem sound_phase3 : Sound (inPhase 3) := by constructor <;> first | decide | (constructor <;> decide)
theorem sound_phase4 : Sound (inPhase 4) := by constructor <;> first | decide | (constructor <;> decide)
theorem sound_phase5 : Sound (inPhase 5) := by constructor <;> first | decide | (constructor <;> decide)
theorem sound_phase6 : Sound (inPhase 6) := by constructor <;> first | decide | (constructor <;> decide)
theorem sound_phase7 : Sound (inPhase 7) := by constructor <;> first | decide | (constructor <;> decide)
theorem sound_phase8 : Sound (inPhase 8) := by constructor <;> first | decide | (constructor <;> decide)
theorem sound_rise17 : Sound rise17 := by constructor <;> first | decide | (constructor <;> decide)
theorem sound_high39 : Sound high39 := by constructor <;> first | decide | (constructor <;> decide)
theorem sound_check : Sound (checks 0 0) := by constructor <;> first | decide | (constructor <;> decide)
theorem sound_decode : Sound (decodes 0 0x6400140078 0x78) := by
  constructor <;> first | decide | (constructor <;> decide)
theorem sound_decodeOut : Sound (decodes 1 0x03E90000EC 0xEC) := by
  constructor <;> first | decide | (constructor <;> decide)
theorem sound_p1End : Sound p1End := by constructor <;> first | decide | (constructor <;> decide)
theorem sound_p2End : Sound p2End := by constructor <;> first | decide | (constructor <;> decide)
theorem sound_p7End : Sound p7End := by constructor <;> first | decide | (constructor <;> decide)

/-! ## Witnesses, in the order of the statements -/

theorem witness_ResetLeavesTheResetValues :
    let s := { p7End with turns := [.reset] }
    s.params.ok = true ∧ s.turns = .reset :: [] := by decide

/-- A host turn, a phase from either turn list, and a transaction that waits on the port. -/
theorem witness_StepRunsTheDecodedInstruction :
    State.reset.params.ok = true ∧
    ({ State.reset with turns := [.host 0x1FFFFFFFFF] }).turns = .host 0x1FFFFFFFFF :: [] ∧
    (p1End.port = 0 ∧ decodePhase p1End.phase = .ok .phaseComplete ∧ p1End.turns = []) ∧
    (let s := { inPhase 8 with port := 4, turns := [.controller] }
     s.port ≠ 0 ∧ decodePin s.port = .ok .pinIsLow ∧ s.turns = .controller :: []) :=
  ⟨by decide, rfl, ⟨rfl, rfl, rfl⟩, by decide, rfl, rfl⟩

/-- Each stop, at the ends of its range. -/
theorem witness_StepStopsExactlyOnReservedCodesAndBadConfigurations :
    step (inPhase 12) = .fault (.reservedPhase 12) ∧
    step { inPhase 15 with turns := [.controller] } = .fault (.reservedPhase 15) ∧
    step { inPhase 5 with port := 5 } = .refused (.reservedPinOp 5) ∧
    step { inPhase 5 with port := 7 } = .refused (.reservedPinOp 7) ∧
    step { State.reset with params := { Params.default with tRise := 65536 } } =
      .refused .configOutOfRange :=
  ⟨rfl, rfl, rfl, rfl, rfl⟩

/-- R10: T_THRESH < T_HIGH_CAP - 1, one higher when inclusive, at both sides of the bound. -/
theorem test_configuration_bounds :
    [68, 69].map (fun t => Params.ok { Params.default with tThresh := t }) = [true, false] ∧
    [69, 70].map (fun t => Params.ok { Params.default with tThresh := t, pollInclusive := true }) =
      [true, false] ∧
    [0, 1, 65535, 65536].map (fun t => Params.ok { Params.default with tWakeLow := t }) =
      [false, true, true, false] ∧
    [0, 1, 32, 33].map (fun w => Params.ok { Params.default with pinErrW := w }) =
      [false, true, true, false] := by decide

theorem witness_SoundStatesNeverStop : Sound { rise17 with turns := [.host 0x0200000000] } :=
  sound_rise17.of_soundFields rfl

theorem witness_DecodeOfEncodeIsTheInstruction :
    ∀ i ∈ [Instr.wrCtrlStart 0xFFFFFFFF, .wrCtrlNop 0xFFFFFFFE, .rdRsvd10 11 1, .wrRsvd12 12 1, .rdCtrl 5,
      .pinIsLow, .phaseComplete], i.wf = true := by decide

theorem witness_EncodeOfDecodeIsTheWord :
    decode (.hbus 0x1FFFFFFFFF) = .ok (.wrRsvd12 15 0xFFFFFFFF) ∧ decode (.pin 4) = .ok .pinIsLow ∧
    decode (.phase 11) = .ok .phaseComplete := ⟨rfl, rfl, rfl⟩

/-- The result registers mean what they say at reset, and after a success, a mismatch and a fault. -/
theorem resultMeans_ends :
    ResultMeans State.reset ∧ ResultMeans p1End ∧ ResultMeans p2End ∧ ResultMeans p7End := by
  refine ⟨?_, ?_, ?_, ?_⟩ <;> constructor <;> decide

theorem witness_CksumReadsItsFields : ResultMeans p7End ∧ p7End.ckv = 0 := ⟨resultMeans_ends.2.2.2, rfl⟩

theorem witness_ResultRegistersReadThemselves : ResultMeans p2End ∧ p2End.valid ≠ 1 :=
  ⟨resultMeans_ends.2.2.1, by decide⟩

/-- Idle and complete, and the two ends of BUSY. -/
theorem witness_ConfigWriteSetsTheVariantUnlessBusy :
    State.reset.phase = 0 ∧ p1End.phase = 11 ∧ ((inPhase 1).phase ≠ 0 ∧ (inPhase 1).phase ≠ 11) ∧
    ((inPhase 10).phase ≠ 0 ∧ (inPhase 10).phase ≠ 11) := by decide

theorem witness_StartBeginsAReadUnlessBusy :
    State.reset.phase = 0 ∧ p7End.phase = 11 ∧ (rise17.phase ≠ 0 ∧ rise17.phase ≠ 11) := by decide

/-- A read of the first, the last named and the last slot, and a write at each end of BUSY. -/
theorem witness_HostAccessWhileBusyChangesOnlyRdata :
    [0x0000000000#37, 0x08FFFFFFFF, 0x0F00000000].map (fun w => (hbusWE w, hbusIDX w)) =
      [(0, 0), (0, 8), (0, 15)] ∧
    [0#4, 8, 15].map (readSlot p7End) = [0, 0x2A, 0] ∧
    hbusWE 0x1000000001 = 1 ∧ busy (inPhase 1) = true ∧ busy (inPhase 10) = true := by decide

theorem witness_HostReadsCommuteWithControllerSteps :
    hbusWE 0x0200000000 = 0 ∧
    ∃ t, runFor 2 { polls 1 0 (.ok true) with turns := [.host 0x0200000000, .controller] } = .next t :=
  ⟨by decide, _, rfl⟩

/-- A CONFIG write after a success. -/
theorem witness_ResultsStayUntilTheNextStart :
    let s := { p1End with turns := [.host 0x1100000000] }
    Sound s ∧ s.phase = 11 ∧ (∀ ts, s.turns ≠ .reset :: ts) ∧
    (∀ w ts d, s.turns = .host w :: ts → decodeHbus w ≠ .wrCtrlStart d) ∧
    ∃ t, step s = .next t ∧ readSlot t 1 ≠ readSlot s 1 := by
  refine ⟨sound_p1End.of_soundFields rfl, rfl, nofun, ?_, _, rfl, by decide⟩
  rintro w ts d ⟨⟩
  exact nofun

theorem witness_ConfigThenStartUsesTheNewVariant :
    let s := { p1End with turns := hostTurns [wrWord .config 0, wrWord .ctrl 1] ++ [.controller] }
    s.params.ok = true ∧ busy s = false ∧
    s.turns = hostTurns [wrWord .config 0, wrWord .ctrl 1] ++ [.controller] := ⟨by decide, by decide, rfl⟩

theorem witness_WakeSetPhases :
    nextReply (polls 1 0 (.ok true)) = .ok true ∧ nextReply (polls 3 0 (.err 7)) = .err 7 := by decide

/-- The first and the last tick of a delay, and delays of 1 and of 3 ticks. -/
theorem witness_DelayPhasesCountOneTick :
    (∀ s ∈ [delays 2 3000, delays 2 1, delays 4 25, delays 4 1], nextTick s = true) ∧
    (∀ n ∈ [1, 3], ∀ ph ∈ [2#4, 4],
      let s := { delays ph (BitVec.ofNat 16 n) with ticks := List.replicate n true ++ [false] }
      s.params.ok = true ∧ s.turns = [] ∧ s.port = 0 ∧ 1 ≤ n ∧ s.dcnt.toNat = n ∧
      s.ticks = List.replicate n true ++ [false] ∧ s.phase = ph) := by decide

/-- What the clauses of `PollStepMeans` ask of a state, for a poll of budget T: a success, a failed
sample that is not the last, the last one (exclusive and inclusive), and a fault on the last one. -/
def PollWitness (t : Nat) (s : BitVec 16 → PinReply → State) : Prop :=
  nextReply (s 0 (.ok true)) = .ok true ∧
  (let u := s (BitVec.ofNat 16 (t - 2)) (.ok false)
   nextReply u = .ok false ∧ nextTick u = true ∧ u.params.pollInclusive = false ∧ u.ecnt.toNat + 1 ≠ t) ∧
  (let u := s (BitVec.ofNat 16 (t - 1)) (.ok false)
   nextReply u = .ok false ∧ nextTick u = true ∧ u.params.pollInclusive = false ∧ u.ecnt.toNat + 1 = t) ∧
  (let u := { s (BitVec.ofNat 16 t) (.ok false) with params := { Params.default with pollInclusive := true } }
   nextReply u = .ok false ∧ nextTick u = true ∧ u.ecnt.toNat + 1 = t + 1) ∧
  nextReply (s (BitVec.ofNat 16 (t - 1)) (.err 1)) = .err 1

theorem witness_PresencePolls :
    PollWitness 85 (polls 5) ∧ PollWitness 85 (polls 6) ∧
    ∀ ph ∈ [5#4, 6], (polls ph 84 (.ok false)).awaitTick = false := by
  unfold PollWitness
  decide

theorem witness_BitRisePoll : PollWitness 55 (polls 7) ∧ (polls 7 54 (.ok false)).awaitTick = false := by
  unfold PollWitness
  decide

theorem witness_BitHighPollStoresTheClassifiedBit :
    PollWitness 70 (polls 8) ∧ (polls 8 69 (.ok false)).awaitTick = false := by
  unfold PollWitness
  decide

theorem witness_AssemblerPlacesExactlyOneBit : (0 < 40 ∧ 39 < 40) ∧ streamBit (storeFrameBit 0 39 1) 39 = true := by
  decide

/-- The waiting transaction of each phase, and one in a phase that does not issue it. -/
theorem witness_PinTransactionsFinishTheirPhase :
    PollWitness 85 (waits 3 5) ∧
    PollWitness 55 (waits 3 7) ∧
    PollWitness 85 (waits 4 6) ∧
    PollWitness 70 (waits 4 8) ∧
    PollWitness 70 (waits 4 0) ∧
    ∀ ph ∈ [1#4, 3, 0, 11], ∀ r ∈ [PinReply.ok true, .err 5], nextReply (polls ph 0 r) = r := by
  unfold PollWitness
  refine ⟨?_, ?_, ?_, ?_, ?_, ?_⟩ <;> decide

theorem witness_WaitsChangeNothingButTheWait :
    (∀ ph ∈ [1#4, 3, 5, 6, 7, 8],
      nextReply (polls ph 0 .silent) = .silent ∧ (polls ph 0 .silent).awaitTick = false) ∧
    (∀ ph ∈ [5#4, 6, 7, 8],
      (let s := { polls ph 0 (.ok false) with ticks := [false] }
       nextTick s = false ∧ s.awaitTick = false ∧ nextReply s = .ok false) ∧
      (let s := { polls ph 0 (.ok false) with ticks := [false], awaitTick := true }
       nextTick s = false ∧ s.awaitTick = true) ∧
      (let s := { polls ph 0 (.ok false) with awaitTick := true }
       nextTick s = true ∧ s.awaitTick = true)) ∧
    (∀ q ∈ [(5#4, 85), (6, 85), (7, 55), (8, 70)],
      (polls q.1 (BitVec.ofNat 16 (q.2 - 1)) (.ok false)).ecnt.toNat + 1 = q.2) := by decide

/-- A late answer in the first phase and the last poll; a late tick in a delay and in a poll. -/
theorem witness_LateAnswersActAsPromptOnes :
    (∀ s ∈ [{ polls 1 0 .silent with line := [.silent, .ok true] },
        { polls 8 69 .silent with line := [.silent, .ok false] }],
      s.turns = [] ∧ s.port = 0 ∧ s.awaitTick = false ∧ phaseOp s.phase ≠ 0) ∧
    Sound { polls 1 0 .silent with line := [.silent, .ok true] } ∧
    Sound { polls 8 69 .silent with line := [.silent, .ok false] } ∧
    (let s := { delays 2 1 with ticks := [false, true] }
     Sound s ∧ s.phase = 2 ∧ s.ticks = false :: true :: [] ∧ s.turns = [] ∧ s.port = 0) ∧
    (let s := { delays 4 25 with ticks := [false, true] }
     Sound s ∧ s.phase = 4 ∧ s.ticks = false :: true :: [] ∧ s.turns = [] ∧ s.port = 0) ∧
    (let s := { polls 5 84 (.ok false) with ticks := [false, true] }
     Sound s ∧ polling s ∧ nextReply s = .ok false ∧ s.ticks = false :: true :: [] ∧
       s.awaitTick = false) :=
  ⟨by decide, sound_phase1.of_soundFields rfl, sound_phase8.of_soundFields rfl,
    ⟨sound_phase2.of_soundFields rfl, by decide⟩, ⟨sound_phase4.of_soundFields rfl, by decide⟩,
    sound_phase5.of_soundFields rfl, by decide⟩

theorem witness_AnUnansweredPortHangsTheBlock :
    let s := { inPhase 6 with line := List.replicate 3 .silent ++ [.ok true] }
    Sound s ∧ s.turns = [] ∧ s.awaitTick = false ∧ phaseOp s.phase ≠ 0 ∧
    s.line = List.replicate 3 .silent ++ [.ok true] :=
  ⟨sound_phase6.of_soundFields rfl, by decide⟩

theorem witness_IdleAndCompleteAreQuiescent :
    (Sound State.reset ∧ State.reset.turns = [] ∧ State.reset.phase = 0) ∧
    (Sound p7End ∧ p7End.turns = [] ∧ p7End.phase = 11) :=
  ⟨⟨sound_idle, by decide⟩, sound_p7End, by decide⟩

/-- D-C3, whose sum wraps, and D-C5. -/
theorem witness_CheckComparesTheSumModulo256 :
    frameByte 0xFFFFFFFFFC 4 = 0xFC ∧ (255 + 255 + 255 + 255) % 256 = 0xFC ∧
    frameByte 0xFFFFFFFFFF 4 ≠ 0xFC := by decide

/-- The two sides of the range check, in both variants: D-R1, D-R2, D-R4, D-R5. -/
theorem witness_DecodePhaseSucceedsOrRejects :
    [decodeA 0x64 0 0x14 0, decodeB 0x03 0xE8 0 0xFA].map (fun r => f32Le 0 r.1 && f32Le r.1 0x42C80000) =
      [true, true] ∧
    [decodeA 0x65 0 0x14 0, decodeB 0x03 0xE9 0 0].map (fun r => f32Le 0 r.1 && f32Le r.1 0x42C80000) =
      [false, false] := by decide

theorem witness_VariantADecodesBytesExactly : 16777215 < 2 ^ 24 ∧ f32OfNat 16777215 = 0x4B7FFFFF :=
  ⟨by norm_num, by decide⟩

theorem witness_TenthsAreRoundedToNearestEven :
    (0x7F7FFFFF#32).toNat < 0x7F800000 ∧ (tenths 273).toNat < 0x7F800000 ∧
    tenthsError 1000 0x42C80000 = 0 := by decide

/-- Each error kind, from its phases. -/
theorem witness_ErrorsAriseOnlyAsListed :
    (∀ q ∈ [(polls 5 84 (.ok false), 1#3), (polls 6 84 (.ok false), 1), (checks 0 0xFFFFFFFFFF, 2),
        (decodes 1 0x03E90000EC 0xEC, 3), (polls 7 54 (.ok false), 4), (polls 8 69 (.ok false), 4)] ++
        [(polls 1 0 (.err 5), 5), (polls 3 0 (.err 5), 5), (polls 5 84 (.err 5), 5),
          (polls 6 0 (.err 5), 5), (polls 7 0 (.err 5), 5), (polls 8 0 (.err 5), 5)],
      q.1.err = 0 ∧ view (·.err) (step q.1) = some q.2) ∧
    Sound (polls 5 84 (.ok false)) ∧ Sound (polls 6 84 (.ok false)) ∧ Sound (checks 0 0xFFFFFFFFFF) ∧
    Sound (decodes 1 0x03E90000EC 0xEC) ∧ Sound (polls 7 54 (.ok false)) ∧
    Sound (polls 8 69 (.ok false)) ∧ Sound (polls 1 0 (.err 5)) ∧ Sound (polls 3 0 (.err 5)) :=
  ⟨by decide, sound_phase5.of_soundFields rfl, sound_phase6.of_soundFields rfl,
    sound_check.of_soundFields rfl, sound_decodeOut, sound_phase7.of_soundFields rfl,
    sound_phase8.of_soundFields rfl, sound_phase1.of_soundFields rfl, sound_phase3.of_soundFields rfl⟩

/-- A state is sound and steps to a state with this view. -/
def StepsTo {α : Type} (s : State) (f : State → α) (a : α) : Prop := Sound s ∧ ∃ t, step s = .next t ∧ f t = a

/-- Every row of R22's table, with a host START and a reset. -/
theorem witness_PhasesFollowTheSuccessorTable :
    (StepsTo { p7End with turns := [.reset] } (·.phase) 0 ∧
      StepsTo { p7End with turns := [.host 0x1000000001] } (·.phase) 1) ∧
    (StepsTo (polls 1 0 (.ok true)) (·.phase) 2 ∧ StepsTo (delays 2 1) (·.phase) 3 ∧
      StepsTo (polls 3 0 (.ok true)) (·.phase) 4 ∧ StepsTo (delays 4 1) (·.phase) 5 ∧
      StepsTo (polls 5 84 (.ok true)) (·.phase) 6 ∧ StepsTo (polls 6 84 (.ok true)) (·.phase) 7) ∧
    (StepsTo rise17 (·.phase) 8 ∧ StepsTo (polls 8 0 (.ok true)) (·.phase) 7 ∧
      StepsTo high39 (·.phase) 9 ∧ StepsTo (checks 0 0) (·.phase) 10 ∧
      StepsTo (decodes 0 0x6400140078 0x78) (·.phase) 11 ∧ StepsTo (checks 0 0x80) (·.phase) 11) :=
  ⟨⟨⟨sound_p7End.of_soundFields rfl, _, rfl, rfl⟩, sound_p7End.of_soundFields rfl, _, rfl, rfl⟩,
    ⟨⟨sound_phase1.of_soundFields rfl, _, rfl, rfl⟩, ⟨sound_phase2.of_soundFields rfl, _, rfl, rfl⟩,
      ⟨sound_phase3.of_soundFields rfl, _, rfl, rfl⟩, ⟨sound_phase4.of_soundFields rfl, _, rfl, rfl⟩,
      ⟨sound_phase5.of_soundFields rfl, _, rfl, rfl⟩, sound_phase6.of_soundFields rfl, _, rfl, rfl⟩,
    ⟨sound_rise17, _, rfl, rfl⟩, ⟨sound_phase8.of_soundFields rfl, _, rfl, rfl⟩,
    ⟨sound_high39, _, rfl, rfl⟩, ⟨sound_check, _, rfl, rfl⟩, ⟨sound_decode, _, rfl, rfl⟩,
    sound_check.of_soundFields rfl, _, rfl, rfl⟩

/-- Each writer at work: START, WR.CONFIG, WAKE_LOW, WAKE_RELEASE and reset. -/
theorem witness_HostRegistersHaveOneWriter :
    StepsTo { State.reset with variant := 1, turns := [.host 0x1000000001] } (·.lvar) 1 ∧
    StepsTo { State.reset with turns := [.host 0x1100000001] } (·.variant) 1 ∧
    StepsTo (polls 1 0 (.ok true)) (·.lineCmd) .low ∧ StepsTo (polls 3 0 (.ok true)) (·.lineCmd) .high ∧
    StepsTo { p1End with turns := [.reset] } (fun t => (t.lvar, t.variant, t.lineCmd)) (0, 0, .unset) :=
  ⟨⟨sound_idle.of_soundFields rfl, _, rfl, rfl⟩, ⟨sound_idle.of_soundFields rfl, _, rfl, rfl⟩,
    ⟨sound_phase1.of_soundFields rfl, _, rfl, rfl⟩, ⟨sound_phase3.of_soundFields rfl, _, rfl, rfl⟩,
    sound_p1End.of_soundFields rfl, _, rfl, rfl⟩

/-- A DECODE that sets the three, and a START and a reset that clear them. -/
theorem witness_ReadingsComeOnlyFromDecode :
    ((decodes 0 0x6400140078 0x78).valid = 0 ∧
      StepsTo (decodes 0 0x6400140078 0x78) (fun t => (t.valid, t.humidity, t.temperature))
        (1, 0x42C80000, 0x41A00000)) ∧
    StepsTo { p1End with turns := [.host 0x1000000001] }
      (fun t => (t.valid, t.humidity, t.temperature)) (0, 0, 0) ∧
    StepsTo { p1End with turns := [.reset] } (fun t => (t.valid, t.humidity, t.temperature)) (0, 0, 0) ∧
    (p1End.valid, p1End.humidity, p1End.temperature) = (1, 0x42826666, 0x41DA6666) :=
  ⟨⟨rfl, sound_decode, _, rfl, by decide⟩, ⟨sound_p1End.of_soundFields rfl, _, rfl, rfl⟩,
    ⟨sound_p1End.of_soundFields rfl, _, rfl, rfl⟩, rfl⟩

/-- A step that keeps the phase, one that ends the last bit, and one from a complete read. -/
theorem witness_EveryStepKeepsTheInvariantsOfR47 :
    StepsTo (polls 5 0 (.ok false)) (·.ecnt) 1 ∧ StepsTo high39 (·.bitcnt) 40 ∧
    StepsTo { p2End with turns := [.host 0x1000000001] } (·.ckv) 0 :=
  ⟨⟨sound_phase5.of_soundFields rfl, _, rfl, rfl⟩, ⟨sound_high39, _, rfl, rfl⟩,
    sound_p2End.of_soundFields rfl, _, rfl, rfl⟩

/-- The counts at the ends of their budgets. -/
theorem witness_CountersStayWithinBudget :
    (∀ s ∈ [polls 5 84 (.ok false), polls 6 83 (.ok false), polls 7 54 (.ok true), polls 8 69 (.ok true)] ++
        [delays 2 1, delays 2 3000, delays 4 1, delays 4 25, State.reset, high39],
      WithinBudget s) ∧
    StepsTo (polls 5 84 (.ok false)) (·.ecnt) 85 ∧ StepsTo (delays 2 3000) (·.dcnt) 2999 := by
  refine ⟨?_, ⟨sound_phase5.of_soundFields rfl, _, rfl, rfl⟩, sound_phase2.of_soundFields rfl, _, rfl, rfl⟩
  intro s hs
  constructor <;> revert s <;> decide

theorem witness_ResultRegistersMeanWhatTheySay :
    ResultMeans (decodes 0 0x6400140078 0x78) ∧ ResultMeans (decodes 1 0x03E90000EC 0xEC) ∧
    ResultMeans (checks 0 0xFFFFFFFFFF) ∧ StepsTo (decodes 1 0x03E90000EC 0xEC) (·.err) 3 := by
  refine ⟨?_, ?_, ?_, sound_decodeOut, _, rfl, rfl⟩ <;> constructor <;> decide

/-- Seventeen bits in place, and the last one missing. -/
theorem witness_BitsNotReceivedReadZero :
    PartialFrame rise17 ∧ PartialFrame high39 ∧ StepsTo high39 (·.frame) 0x028C0111A0 := by
  have h17 : ∀ i < 40, 17 ≤ i → rise17.frame.getLsbD (39 - i) = false := by decide
  have h39 : ∀ i < 40, 39 ≤ i → high39.frame.getLsbD (39 - i) = false := by decide
  exact ⟨fun i h1 h2 => h17 i h2 h1, fun i h1 h2 => h39 i h2 h1, sound_high39, _, rfl, rfl⟩

theorem witness_LineCommandFollowsThePhase :
    (∀ ph ∈ [0#4, 1, 2, 3, 4, 5, 10, 11], LineTold (inPhase ph)) ∧
    StepsTo (polls 3 0 (.ok true)) (·.lineCmd) .high := by
  refine ⟨?_, sound_phase3.of_soundFields rfl, _, rfl, rfl⟩
  intro ph h
  constructor <;> revert ph <;> decide

/-- All but the last of PRES_HIGH's samples fail; and none does. -/
theorem witness_FailedSamplesAreCounted :
    ∀ k ∈ [84, 0],
      let s := { inPhase 5 with line := List.replicate k (.ok false) ++ [.silent], ticks := List.replicate k true ++ [] }
      Sound s ∧ polling s ∧ s.turns = [] ∧ s.port = 0 ∧ s.awaitTick = false ∧
      s.ecnt.toNat + k < pollBudget s := by
  intro k hk
  exact ⟨sound_phase5.of_soundFields rfl, .inl rfl, rfl, rfl, rfl, by revert k; decide⟩

theorem witness_AnExhaustedPollNamesItsPhase :
    let s := { inPhase 7 with line := List.replicate 55 (.ok false) ++ [], ticks := List.replicate 55 true ++ [] }
    Sound s ∧ polling s ∧ s.turns = [] ∧ s.port = 0 ∧ s.awaitTick = false ∧ s.ecnt = 0 ∧ pollBudget s = 55 :=
  ⟨sound_phase7.of_soundFields rfl, by decide⟩

theorem witness_StepsLeftFallWithEveryAnsweredStep :
    (let s := polls 8 69 (.ok true)
     Sound s ∧ WithinBudget s ∧ busy s = true ∧ controllerTurn s ∧ nextReply s ≠ .silent ∧
     nextTick s = true ∧ ∃ t, step s = .next t) ∧ busy p1End = false :=
  ⟨⟨sound_phase8.of_soundFields rfl, by constructor <;> decide, by decide, .inl rfl, by decide, by decide,
    _, rfl⟩, by decide⟩

/-- The last step of a read, and a whole read that is answered. -/
theorem witness_EveryAnsweredReadEnds :
    (let s := { decodes 0 0x6400140078 0x78 with line := [.ok true], ticks := [true] }
     Sound s ∧ WithinBudget s ∧ busy s = true ∧ s.turns = [] ∧ stepsLeft s = 1 ∧ Answered (stepsLeft s) s) ∧
    (let s := { inPhase 1 with line := List.replicate 8199 (.ok false), ticks := List.replicate 8199 true }
     Sound s ∧ WithinBudget s ∧ busy s = true ∧ s.turns = [] ∧ Answered (stepsLeft s) s) := by
  refine ⟨⟨sound_decode.of_soundFields rfl, by constructor <;> decide, by decide, rfl, rfl, by decide, by decide, by decide, by decide⟩,
    sound_phase1.of_soundFields rfl, by constructor <;> decide, by decide, rfl, ?_, ?_, ?_, ?_⟩
  · simp only [List.length_replicate]
    decide
  · simp only [List.length_replicate]
    decide
  · exact fun r h => by rw [List.eq_of_mem_replicate h]; decide
  · exact fun b h => List.eq_of_mem_replicate h

/-- Forty pulses at the ends of their ranges: rise counts up to 54, high counts 0 and 69. -/
theorem witness_FortyPulsesMakeTheFrame :
    let pulses := List.replicate 39 (54, 69) ++ [(0, 0)]
    let s := { inPhase 7 with
      line := scriptReplies (pulsesScript pulses) ++ [], ticks := List.replicate (pulsesTicks pulses) true ++ [] }
    s.params.ok = true ∧ s.turns = [] ∧ s.port = 0 ∧ s.awaitTick = false ∧ s.phase = 7 ∧ s.bitcnt = 0 ∧
    s.frame = 0 ∧ s.ecnt = 0 ∧ pulses.length = 40 ∧ pulsesFit s.params pulses :=
  ⟨by decide, rfl, rfl, rfl, rfl, rfl, rfl, rfl, rfl, by unfold pulsesFit; decide⟩

/-- A whole read whose presence counts are 84, the largest. -/
theorem witness_ReadsEndAsTheFrameSays :
    let pulses := List.replicate 40 (0, 0)
    let s := { inPhase 1 with
      line := scriptReplies ([LineTok.set, .set, .poll 84, .poll 84] ++ pulsesScript pulses) ++ [],
      ticks := List.replicate (3000 + 25 + 84 + 84 + pulsesTicks pulses) true ++ [] }
    s.params.ok = true ∧ s.turns = [] ∧ s.port = 0 ∧ s.awaitTick = false ∧ s.phase = 1 ∧ s.bitcnt = 0 ∧
    s.frame = 0 ∧ s.valid = 0 ∧ s.err = 0 ∧ 84 < s.params.samples s.params.tPresHigh ∧
    84 < s.params.samples s.params.tPresLow ∧ pulses.length = 40 ∧ pulsesFit s.params pulses :=
  ⟨by decide, rfl, rfl, rfl, rfl, rfl, rfl, rfl, rfl, by decide, by decide, rfl, by unfold pulsesFit; decide⟩

/-- The frames that `ReadsEndAsTheFrameSays` tells apart: a Reading, a humidity out of range, a
mismatch. -/
theorem witness_ReadsEndAsTheFrameSays_frames :
    (frameByte 0x0000000000 4 = checksum 0x0000000000 ∧ humidityInRange (decodeFrame 0 0).1 = true) ∧
    (frameByte 0xFFFFFFFFFC 4 = checksum 0xFFFFFFFFFC ∧
      humidityInRange (decodeFrame 0 0xFFFFFFFFFC).1 = false) ∧
    frameByte 0x0000000001 4 ≠ checksum 0x0000000001 := by decide

end Sys2Proof.Tests
end

section
/-! SUPPORT. Rounding to binary32 (R16): a finite pattern as a multiple of a power of two, what
`f32Round` returns for a fraction in range, and from that the exact conversion of small whole numbers
(R183) and nearest, ties to even, for tenths (R184, R185, R191). -/

namespace Sys2Proof.Machine

/-! ### Finite patterns as `q * 2 ^ k` -/

theorem extractLsb'_exponent (x : Word) : (x.extractLsb' 23 8).toNat = x.toNat / 2 ^ 23 % 2 ^ 8 := by
  rw [BitVec.extractLsb'_toNat, Nat.shiftRight_eq_div_pow]

theorem extractLsb'_fraction (x : Word) : (x.extractLsb' 0 23).toNat = x.toNat % 2 ^ 23 := by
  rw [BitVec.extractLsb'_toNat, Nat.shiftRight_zero]

/-- A significand `q` of at most 24 bits at binade `k` stands in the pattern `k * 2^23 + q`; one that has
just outgrown its binade (`q = 2^24`) stands there too, as the first of the next. -/
theorem f32Units_of_toNat {x : Word} {k q : Nat} (hx : x.toNat = k * 2 ^ 23 + q)
    (hfin : x.toNat < 0x7F800000) (hq : q ≤ 2 ^ 24) (hnorm : k = 0 ∨ 2 ^ 23 ≤ q) :
    f32Units x = q * 2 ^ k := by
  have units (e f : Nat) (he : x.toNat / 2 ^ 23 % 2 ^ 8 = e) (hf : x.toNat % 2 ^ 23 = f) :
      f32Units x = if e = 0 then f else (2 ^ 23 + f) * 2 ^ (e - 1) := by
    simp only [f32Units, extractLsb'_exponent, extractLsb'_fraction, he, hf]
  obtain hsub | ⟨hlo, hhi⟩ | htop : q < 2 ^ 23 ∨ (2 ^ 23 ≤ q ∧ q < 2 ^ 24) ∨ q = 2 ^ 24 := by omega
  · obtain rfl : k = 0 := by omega
    rw [units 0 q (by omega) (by omega)]
    simp
  · rw [units (k + 1) (q - 2 ^ 23) (by omega) (by omega), if_neg (by omega),
      Nat.add_sub_cancel' hlo, Nat.add_sub_cancel]
  · subst htop
    rw [units (k + 2) 0 (by omega) (by omega), if_neg (by omega)]
    rw [show k + 2 - 1 = k + 1 from rfl, pow_succ 2 k]
    ring

/-- Every finite nonnegative pattern is a significand of fewer than 24 bits (normalised above the first
binade) times a power of two. -/
theorem exists_f32_form {z : Word} (hfin : z.toNat < 0x7F800000) :
    ∃ k q, z.toNat = k * 2 ^ 23 + q ∧ q < 2 ^ 24 ∧ (k = 0 ∨ 2 ^ 23 ≤ q) ∧ f32Units z = q * 2 ^ k := by
  have hdecomp : z.toNat =
      (z.toNat / 2 ^ 23 - 1) * 2 ^ 23 + (z.toNat - (z.toNat / 2 ^ 23 - 1) * 2 ^ 23) := by omega
  exact ⟨_, _, hdecomp, by omega, by omega, f32Units_of_toNat hdecomp hfin (by omega) (by omega)⟩

/-- A significand in a lower binade is smaller than every normalised one in a higher binade. -/
theorem significand_lt_of_binade_lt {k k' q q' : Nat} (hk : k < k') (hq : q < 2 ^ 24)
    (hq' : 2 ^ 23 ≤ q') : q * 2 ^ k < q' * 2 ^ k' :=
  calc q * 2 ^ k < 2 ^ 24 * 2 ^ k := Nat.mul_lt_mul_of_pos_right hq (by positivity)
    _ = 2 ^ 23 * 2 ^ (k + 1) := by rw [pow_succ 2 k]; ring
    _ ≤ q' * 2 ^ k' := Nat.mul_le_mul hq' (Nat.pow_le_pow_right (by decide) hk)

/-- Different finite nonnegative patterns have different values. -/
theorem f32Units_injective {x y : Word} (hx : x.toNat < 0x7F800000) (hy : y.toNat < 0x7F800000)
    (h : f32Units x = f32Units y) : x = y := by
  obtain ⟨k, q, hxq, hq, hnorm, hux⟩ := exists_f32_form hx
  obtain ⟨k', q', hyq, hq', hnorm', huy⟩ := exists_f32_form hy
  rw [hux, huy] at h
  obtain hlt | rfl | hgt := lt_trichotomy k k'
  · exact absurd h (significand_lt_of_binade_lt hlt hq (by omega)).ne
  · have : q = q' := Nat.eq_of_mul_eq_mul_right (by positivity) h
    exact BitVec.eq_of_toNat_eq (by omega)
  · exact absurd h (significand_lt_of_binade_lt hgt hq' (by omega)).ne'

/-! ### What rounding returns -/

/-- The binade that `f32Round` picks, as the power of two of units of 2^-149 in its last place. -/
def roundBinade (num den : Nat) : Nat := Nat.log2 (num * 2 ^ 149 / den) - 23

/-- The significand that `f32Round` picks: `x / d` to the nearest whole number, ties to even. -/
def roundQuotient (x d : Nat) : Nat :=
  x / d + if d < 2 * (x % d) ∨ (2 * (x % d) = d ∧ x / d % 2 = 1) then 1 else 0

theorem f32Round_eq (num den : Nat) :
    f32Round num den =
      BitVec.ofNat 32 (min (roundBinade num den * 2 ^ 23 +
        roundQuotient (num * 2 ^ 149) (den * 2 ^ roundBinade num den)) 0x7F800000) := by
  rw [roundQuotient, ← Nat.add_assoc]
  rfl

/-- How far two numbers lie apart. -/
def distance (v x : Nat) : Nat := ((v : Int) - x).natAbs

theorem roundQuotient_near {d : Nat} (hd : 0 < d) (x : Nat) :
    2 * distance (roundQuotient x d * d) x ≤ d ∧
      (2 * distance (roundQuotient x d * d) x = d → roundQuotient x d % 2 = 0) := by
  have hx : x / d * d + x % d = x := Nat.div_add_mod' x d
  have hr : x % d < d := Nat.mod_lt x hd
  unfold distance roundQuotient
  rw [Nat.add_mul]
  split <;> simp only [Nat.one_mul, Nat.zero_mul] <;> omega

/-- The binade of a whole part `v` leaves it a significand of at most 24 bits, and of 24 bits exactly above
the first binade. -/
theorem significand_bounds (v : Nat) :
    v < 2 ^ 24 * 2 ^ (Nat.log2 v - 23) ∧
      (Nat.log2 v - 23 = 0 ∨ 2 ^ 23 * 2 ^ (Nat.log2 v - 23) ≤ v) := by
  rw [← pow_add, ← pow_add]
  constructor
  · exact (Nat.lt_log2_self (n := v)).trans_le (Nat.pow_le_pow_right (by decide) (by omega))
  · by_cases hk : Nat.log2 v - 23 = 0
    · exact .inl hk
    · have hv : v ≠ 0 := by rintro rfl; simp at hk
      exact .inr ((Nat.pow_le_pow_right (by decide) (by omega)).trans (Nat.log2_self_le hv))

theorem roundQuotient_bounds (num den : Nat) :
    roundQuotient (num * 2 ^ 149) (den * 2 ^ roundBinade num den) ≤ 2 ^ 24 ∧
      (roundBinade num den = 0 ∨
        2 ^ 23 ≤ num * 2 ^ 149 / (den * 2 ^ roundBinade num den)) := by
  obtain ⟨hlt, hnorm⟩ := significand_bounds (num * 2 ^ 149 / den)
  rw [← roundBinade] at hlt hnorm
  rw [roundQuotient, ← Nat.div_div_eq_div_mul, Nat.le_div_iff_mul_le (by positivity)]
  rw [← Nat.div_lt_iff_lt_mul (by positivity)] at hlt
  refine ⟨?_, hnorm⟩
  split <;> omega

/-- A fraction below 2^100 has its binade far below infinity's. -/
theorem roundBinade_le {num den : Nat} (hnum : num < den * 2 ^ 100) : roundBinade num den ≤ 225 := by
  have hv : num * 2 ^ 149 / den < 2 ^ 249 := by
    apply Nat.div_lt_of_lt_mul
    calc num * 2 ^ 149 < den * 2 ^ 100 * 2 ^ 149 := Nat.mul_lt_mul_of_pos_right hnum (by positivity)
      _ = den * 2 ^ 249 := by rw [mul_assoc, ← pow_add]
  unfold roundBinade
  obtain h0 | hpos := Nat.eq_zero_or_pos (num * 2 ^ 149 / den)
  · rw [h0]
    decide
  · have := (Nat.log2_lt hpos.ne').mpr hv
    omega

/-- `z` is the pattern of a significand `q` at binade `k`, `q` nearest, ties to even, to `num / den` in
units of that binade's last place; and the fraction lies in that binade or above. -/
structure RoundsTo (num den : Nat) (z : Word) (k q : Nat) : Prop where
  toNat_eq : z.toNat = k * 2 ^ 23 + q
  finite : z.toNat < 0x7F800000
  units : f32Units z = q * 2 ^ k
  binade : k = 0 ∨ 2 ^ 23 * (den * 2 ^ k) ≤ num * 2 ^ 149
  near : 2 * distance (q * (den * 2 ^ k)) (num * 2 ^ 149) ≤ den * 2 ^ k
  tie_even : 2 * distance (q * (den * 2 ^ k)) (num * 2 ^ 149) = den * 2 ^ k → q % 2 = 0

/-- A fraction below 2^100 rounds to a finite pattern, to nearest with ties to even. -/
theorem exists_roundsTo {num den : Nat} (hden : 0 < den) (hnum : num < den * 2 ^ 100) :
    ∃ k q, RoundsTo num den (f32Round num den) k q := by
  have hk := roundBinade_le hnum
  obtain ⟨hq, hnorm⟩ := roundQuotient_bounds num den
  have hd : 0 < den * 2 ^ roundBinade num den := by positivity
  obtain ⟨hnear, htie⟩ := roundQuotient_near hd (num * 2 ^ 149)
  have hle : num * 2 ^ 149 / (den * 2 ^ roundBinade num den) ≤
      roundQuotient (num * 2 ^ 149) (den * 2 ^ roundBinade num den) := Nat.le_add_right ..
  have htoNat : (f32Round num den).toNat = roundBinade num den * 2 ^ 23 +
      roundQuotient (num * 2 ^ 149) (den * 2 ^ roundBinade num den) := by
    rw [f32Round_eq, Nat.min_eq_left (by omega), BitVec.toNat_ofNat, Nat.mod_eq_of_lt (by omega)]
  have hfin : (f32Round num den).toNat < 0x7F800000 := by omega
  exact ⟨_, _, htoNat, hfin, f32Units_of_toNat htoNat hfin hq (by omega),
    hnorm.imp_right (Nat.le_div_iff_mul_le hd).mp, hnear, htie⟩

/-! ### Nearest -/

theorem distance_lt_of_lt_of_le {a b x : Nat} (hab : a < b) (hbx : b ≤ x) :
    distance b x < distance a x := by
  unfold distance
  omega

/-- No multiple of `d` is nearer to `x` than one within `d / 2`, and another as near needs a tie. -/
theorem distance_le_of_near {q d x : Nat} (hnear : 2 * distance (q * d) x ≤ d) (m : Nat) :
    distance (q * d) x ≤ distance (m * d) x ∧
      (m ≠ q → distance (m * d) x = distance (q * d) x → 2 * distance (q * d) x = d) := by
  unfold distance at *
  obtain hlt | rfl | hgt := lt_trichotomy m q
  · have := Nat.mul_le_mul_right d hlt
    rw [Nat.succ_mul] at this
    omega
  · simp
  · have := Nat.mul_le_mul_right d hgt
    rw [Nat.succ_mul] at this
    omega

section Nearest

variable {num den k q : Nat} {z y : Word}

/-- No finite nonnegative pattern is nearer to `num / den` than the rounded one. One at its binade or above
is a multiple of its last place; one below is farther than the binade's least significand. -/
theorem RoundsTo.nearest (h : RoundsTo num den y k q) (hden : 0 < den) (hz : z.toNat < 0x7F800000) :
    distance (f32Units y * den) (num * 2 ^ 149) ≤ distance (f32Units z * den) (num * 2 ^ 149) ∧
      (distance (f32Units z * den) (num * 2 ^ 149) = distance (f32Units y * den) (num * 2 ^ 149) →
        z ≠ y → q % 2 = 0) := by
  obtain ⟨k', q', -, hq', -, huz⟩ := exists_f32_form hz
  have scale (m : Nat) : m * 2 ^ k * den = m * (den * 2 ^ k) := by ring
  have grid := distance_le_of_near h.near
  rw [h.units, scale]
  obtain hge | hlt := le_or_gt k k'
  · obtain ⟨m, hm⟩ : ∃ m, f32Units z = m * 2 ^ k :=
      ⟨q' * 2 ^ (k' - k), by rw [huz, mul_assoc, ← pow_add, Nat.sub_add_cancel hge]⟩
    rw [hm, scale]
    refine ⟨(grid m).1, fun heq hne => h.tie_even ((grid m).2 ?_ heq)⟩
    rintro rfl
    exact hne (f32Units_injective hz h.finite (hm.trans h.units.symm))
  · have hbinade : 2 ^ 23 * (den * 2 ^ k) ≤ num * 2 ^ 149 := h.binade.resolve_left (by omega)
    have hbelow : f32Units z * den < 2 ^ 23 * (den * 2 ^ k) := by
      rw [← scale, huz]
      exact Nat.mul_lt_mul_of_pos_right (significand_lt_of_binade_lt hlt hq' le_rfl) hden
    have hleast := (grid (2 ^ 23)).1
    have hfar : distance (2 ^ 23 * (den * 2 ^ k)) (num * 2 ^ 149) <
        distance (f32Units z * den) (num * 2 ^ 149) := distance_lt_of_lt_of_le hbelow hbinade
    exact ⟨(hleast.trans_lt hfar).le, fun heq => absurd heq (hleast.trans_lt hfar).ne'⟩

theorem RoundsTo.bit0_of_even (h : RoundsTo num den y k q) (hq : q % 2 = 0) : y.getLsbD 0 = false := by
  have := h.toNat_eq
  rw [BitVec.getLsbD, Nat.testBit_zero, decide_eq_false_iff_not]
  omega

end Nearest

/-! ### Whole numbers -/

/-- A whole number of fewer than 24 bits is a multiple of its binade's last place, so it is not rounded. -/
theorem f32Units_f32OfNat {n : Nat} (hn : n < 2 ^ 24) :
    f32Units (f32OfNat n) = n * 2 ^ 149 ∧ (f32OfNat n).toNat < 0x7F800000 := by
  obtain ⟨k, q, h⟩ := exists_roundsTo (num := n) Nat.one_pos (by omega)
  refine ⟨h.units.trans ?_, h.finite⟩
  have hk : k ≤ 149 := by
    by_contra hbig
    have hle := h.binade.resolve_left (by omega)
    have hpow : 2 ^ 150 ≤ 2 ^ k := Nat.pow_le_pow_right (by decide) (by omega)
    omega
  have hmul : n * 2 ^ 149 = n * 2 ^ (149 - k) * 2 ^ k := by
    rw [mul_assoc, ← pow_add, Nat.sub_add_cancel hk]
  have hnear := (distance_le_of_near h.near (n * 2 ^ (149 - k))).1
  rw [Nat.one_mul, ← hmul] at hnear
  unfold distance at hnear
  omega

theorem getLsbD_31_of_finite {z : Word} (hfin : z.toNat < 0x7F800000) : z.getLsbD 31 = false :=
  Nat.testBit_eq_false_of_lt (by omega)

/-- Settles O37, by `f32Units_f32OfNat` on the two bytes that `decodeA` reads. -/
theorem variantADecodesBytesExactly : Obligations.VariantADecodesBytesExactly := by
  have byte (b : Byte) := f32Units_f32OfNat (n := b.toNat) (by omega)
  refine ⟨fun n hn => f32Units_f32OfNat hn, fun b0 b1 b2 b3 => ⟨(byte b0).1, (byte b2).1, ?_⟩⟩
  exact Bool.or_eq_false_iff.mpr ⟨getLsbD_31_of_finite (byte b0).2, getLsbD_31_of_finite (byte b2).2⟩

/-! ### Tenths -/

theorem tenths_eq (n : BitVec 16) : tenths n = f32Round (n.toNat * 2 ^ 149) (10 * 2 ^ 149) := by
  rw [tenths, f32Div, (f32Units_f32OfNat (by omega)).1]
  rfl

/-- The distance of `RoundsTo` for `n` tenths is `tenthsError`, scaled by the units of the divisor. -/
theorem distance_eq_tenthsError (n : BitVec 16) (z : Word) :
    distance (f32Units z * (10 * 2 ^ 149)) (n.toNat * 2 ^ 149 * 2 ^ 149) = tenthsError n z * 2 ^ 149 := by
  rw [distance, tenthsError, ← Int.natAbs_natCast (2 ^ 149), ← Int.natAbs_mul]
  push_cast
  congr 1
  ring

/-- Settles O39, by `RoundsTo.nearest` for the fraction that `tenths` rounds. -/
theorem tenthsAreRoundedToNearestEven : Obligations.TenthsAreRoundedToNearestEven := by
  intro n z hz
  obtain ⟨k, q, h⟩ := exists_roundsTo (num := n.toNat * 2 ^ 149) (den := 10 * 2 ^ 149) (by positivity)
    (by omega)
  rw [← tenths_eq] at h
  obtain ⟨hle, htie⟩ := h.nearest (by positivity) hz
  simp only [distance_eq_tenthsError] at hle htie
  exact ⟨h.finite, Nat.le_of_mul_le_mul_right hle (by positivity),
    fun heq hne => h.bit0_of_even (htie (congrArg (· * 2 ^ 149) heq) hne)⟩

end Sys2Proof.Machine
end

section
/-! SUPPORT. What a step runs, by the agent that moves (R20, R69), by the code in `phase` and by the op
code on the port; and from that where a step stops (R10, R90). -/

namespace Sys2Proof.Machine

/-! ### Codes -/

/-- The instruction of a phase (R87). -/
def phaseInstr : Phase → Instr
  | .idle => .phaseIdle
  | .wakeLow => .phaseWakeLow
  | .wakeHold => .phaseWakeHold
  | .wakeRelease => .phaseWakeRelease
  | .wakeSettle => .phaseWakeSettle
  | .presHigh => .phasePresHigh
  | .presLow => .phasePresLow
  | .bitRise => .phaseBitRise
  | .bitHigh => .phaseBitHigh
  | .check => .phaseCheck
  | .decode => .phaseDecode
  | .complete => .phaseComplete

/-- The instruction of a pin operation (R85). -/
def pinInstr : PinOp → Instr
  | .setLow => .pinSetLow
  | .setHigh => .pinSetHigh
  | .isHigh => .pinIsHigh
  | .isLow => .pinIsLow

@[simp] theorem decodePhase_phaseCode (p : Phase) : decodePhase (phaseCode p) = .ok (phaseInstr p) := by
  cases p <;> rfl

@[simp] theorem decodePin_pinCode (op : PinOp) : decodePin (pinCode op) = .ok (pinInstr op) := by
  cases op <;> rfl

theorem pinCode_ne_zero (op : PinOp) : pinCode op ≠ 0 := by cases op <;> decide

/-- The phases, in the order of their codes. -/
def allPhases : List Phase :=
  [.idle, .wakeLow, .wakeHold, .wakeRelease, .wakeSettle, .presHigh, .presLow, .bitRise, .bitHigh, .check,
    .decode, .complete]

theorem mem_allPhases (p : Phase) : p ∈ allPhases := by cases p <;> decide

theorem phaseCode_injective : Function.Injective phaseCode := by
  have hcodes : ∀ p ∈ allPhases, ∀ q ∈ allPhases, phaseCode p = phaseCode q → p = q := by decide
  exact fun p q => hcodes p (mem_allPhases p) q (mem_allPhases q)

/-- A phase code is a phase's or one of the reserved ones above (R87, R90). -/
theorem phaseCode_or_reserved (c : BitVec 4) :
    (c.toNat ≤ 11 ∧ ∃ p, c = phaseCode p) ∨
      (12 ≤ c.toNat ∧ decodePhase c = .error (.reservedPhase c)) := by
  have hcodes : ∀ c : BitVec 4, c.toNat ≤ 11 → ∃ p ∈ allPhases, c = phaseCode p := by decide
  have hreserved : ∀ c : BitVec 4, 12 ≤ c.toNat → decodePhase c = .error (.reservedPhase c) := by decide
  obtain hle | hgt := le_or_gt c.toNat 11
  · obtain ⟨p, -, hp⟩ := hcodes c hle
    exact .inl ⟨hle, p, hp⟩
  · exact .inr ⟨hgt, hreserved c hgt⟩

/-- An op code is 000, a pin operation's, or one of the reserved ones above (R85, R90). -/
theorem pinCode_or_reserved (c : BitVec 3) :
    (c.toNat ≤ 4 ∧ (c = 0 ∨ ∃ op, c = pinCode op)) ∨
      (5 ≤ c.toNat ∧ decodePin c = .error (.reservedPin c)) := by
  have hcodes : ∀ c : BitVec 3, c.toNat ≤ 4 →
      c = 0 ∨ ∃ op ∈ [PinOp.setLow, .setHigh, .isHigh, .isLow], c = pinCode op := by decide
  have hreserved : ∀ c : BitVec 3, 5 ≤ c.toNat → decodePin c = .error (.reservedPin c) := by decide
  obtain hle | hgt := le_or_gt c.toNat 4
  · exact .inl ⟨hle, (hcodes c hle).imp_right fun ⟨op, _, hop⟩ => ⟨op, hop⟩⟩
  · exact .inr ⟨hgt, hreserved c hgt⟩

section Steps

/-! ### What a step runs -/

variable {s : State}

theorem turn_cases (s : State) :
    (∃ w ts, s.turns = .host w :: ts) ∨ (∃ ts, s.turns = .reset :: ts) ∨ controllerTurn s := by
  match h : s.turns with
  | [] => exact .inr (.inr (.inl h))
  | .host w :: ts => exact .inl ⟨w, ts, rfl⟩
  | .reset :: ts => exact .inr (.inl ⟨ts, rfl⟩)
  | .controller :: ts => exact .inr (.inr (.inr ⟨ts, h⟩))

theorem step_badConfig (hok : s.params.ok = false) : step s = .refused .configOutOfRange := by
  unfold step fetch
  simp only [hok, Bool.false_eq_true, if_false]

theorem step_host {w : BitVec 37} {ts : List Turn} (hok : s.params.ok = true)
    (ht : s.turns = .host w :: ts) : step s = exec (decodeHbus w) (afterTurn s) := by
  unfold step
  rw [(fetch_turn hok).1 w ts ht]

theorem step_reset {ts : List Turn} (hok : s.params.ok = true) (ht : s.turns = .reset :: ts) :
    step s = .next (resetBlock (afterTurn s)) := by
  unfold step
  rw [(fetch_turn hok).2.1 ts ht]

@[simp] theorem afterTurn_phase : (afterTurn s).phase = s.phase := rfl
@[simp] theorem afterTurn_port : (afterTurn s).port = s.port := rfl

section Controller

variable (hok : s.params.ok = true) (hc : controllerTurn s)
include hok hc

theorem step_phase {i : Instr} (hport : s.port = 0) (hi : decodePhase s.phase = .ok i) :
    step s = exec i (afterTurn s) := by
  unfold step
  rw [(fetch_turn hok).2.2 hc]
  simp only [fetchController, afterTurn_port, afterTurn_phase, if_pos hport, decode, hi]

theorem step_port {i : Instr} (hport : s.port ≠ 0) (hi : decodePin s.port = .ok i) :
    step s = exec i (afterTurn s) := by
  unfold step
  rw [(fetch_turn hok).2.2 hc]
  simp only [fetchController, afterTurn_port, if_neg hport, decode, hi]

theorem step_reservedPhase {e : DecodeError} (hport : s.port = 0) (he : decodePhase s.phase = .error e) :
    step s = .fault (.reservedPhase s.phase) := by
  unfold step
  rw [(fetch_turn hok).2.2 hc]
  simp only [fetchController, afterTurn_port, afterTurn_phase, if_pos hport, decode, he]

theorem step_reservedPin {e : DecodeError} (hport : s.port ≠ 0) (he : decodePin s.port = .error e) :
    step s = .refused (.reservedPinOp s.port) := by
  unfold step
  rw [(fetch_turn hok).2.2 hc]
  simp only [fetchController, afterTurn_port, if_neg hport, decode, he]

end Controller

/-! ### Where a step stops -/

/-- A controller turn finds a reserved phase code, no transaction waiting. -/
def atReservedPhase (s : State) : Prop := controllerTurn s ∧ s.port = 0 ∧ 12 ≤ s.phase.toNat

/-- A controller turn finds a reserved op code on the port. -/
def atReservedPin (s : State) : Prop := controllerTurn s ∧ 5 ≤ s.port.toNat

theorem not_controllerTurn_of_host {w : BitVec 37} {ts : List Turn} (h : s.turns = .host w :: ts) :
    ¬controllerTurn s := by
  simp [controllerTurn, h]

theorem not_controllerTurn_of_reset {ts : List Turn} (h : s.turns = .reset :: ts) :
    ¬controllerTurn s := by
  simp [controllerTurn, h]

/-- How a controller turn can end. -/
theorem step_outcome_controller (hok : s.params.ok = true) (hc : controllerTurn s) :
    (atReservedPhase s ∧ ¬atReservedPin s ∧ step s = .fault (.reservedPhase s.phase)) ∨
    (¬atReservedPhase s ∧ atReservedPin s ∧ step s = .refused (.reservedPinOp s.port)) ∨
    (¬atReservedPhase s ∧ ¬atReservedPin s ∧ ∃ t, step s = .next t) := by
  unfold atReservedPhase atReservedPin
  obtain ⟨hle, hport | ⟨op, hop⟩⟩ | ⟨hge, he⟩ := pinCode_or_reserved s.port
  · obtain ⟨hphase, p, hp⟩ | ⟨hphase, he⟩ := phaseCode_or_reserved s.phase
    · obtain ⟨t, ht⟩ := exec_next (phaseInstr p) (afterTurn s)
      refine .inr (.inr ⟨by omega, by omega, t, ?_⟩)
      rw [step_phase hok hc hport (hp ▸ decodePhase_phaseCode p), ht]
    · exact .inl ⟨⟨hc, hport, hphase⟩, by omega, step_reservedPhase hok hc hport he⟩
  · have hport : s.port ≠ 0 := hop ▸ pinCode_ne_zero op
    obtain ⟨t, ht⟩ := exec_next (pinInstr op) (afterTurn s)
    refine .inr (.inr ⟨fun h => hport h.2.1, by omega, t, ?_⟩)
    rw [step_port hok hc hport (hop ▸ decodePin_pinCode op), ht]
  · have hport : s.port ≠ 0 := by
      intro h
      simp [h] at hge
    exact .inr (.inl ⟨fun h => hport h.2.1, ⟨hc, hge⟩, step_reservedPin hok hc hport he⟩)

/-- How any step can end, under a legal configuration. -/
theorem step_outcome (hok : s.params.ok = true) :
    (atReservedPhase s ∧ ¬atReservedPin s ∧ step s = .fault (.reservedPhase s.phase)) ∨
    (¬atReservedPhase s ∧ atReservedPin s ∧ step s = .refused (.reservedPinOp s.port)) ∨
    (¬atReservedPhase s ∧ ¬atReservedPin s ∧ ∃ t, step s = .next t) := by
  obtain ⟨w, ts, ht⟩ | ⟨ts, ht⟩ | hc := turn_cases s
  · have hc := not_controllerTurn_of_host ht
    exact .inr (.inr ⟨fun h => hc h.1, fun h => hc h.1, step_host hok ht ▸ exec_next _ _⟩)
  · have hc := not_controllerTurn_of_reset ht
    exact .inr (.inr ⟨fun h => hc h.1, fun h => hc h.1, _, step_reset hok ht⟩)
  · exact step_outcome_controller hok hc

theorem step_eq_fault_iff (hok : s.params.ok = true) (r : Fault) :
    step s = .fault r ↔ atReservedPhase s ∧ r = .reservedPhase s.phase := by
  obtain ⟨hphase, -, hs⟩ | ⟨hphase, -, hs⟩ | ⟨hphase, -, t, hs⟩ := step_outcome hok <;>
    simp [hs, hphase, eq_comm]

theorem step_eq_refused_iff (hok : s.params.ok = true) (r : Refusal) :
    step s = .refused r ↔ atReservedPin s ∧ r = .reservedPinOp s.port := by
  obtain ⟨-, hpin, hs⟩ | ⟨-, hpin, hs⟩ | ⟨-, hpin, t, hs⟩ := step_outcome hok <;>
    simp [hs, hpin, eq_comm]

end Steps

/-- Settles O4, by what a step answers under an illegal and under a legal configuration. -/
theorem stepStopsExactlyOnReservedCodesAndBadConfigurations :
    Obligations.StepStopsExactlyOnReservedCodesAndBadConfigurations := by
  intro s
  cases hok : s.params.ok with
  | false =>
    rw [step_badConfig hok]
    exact ⟨fun r => by simp, fun r => by simp [eq_comm]⟩
  | true =>
    refine ⟨fun r => (step_eq_fault_iff hok r).trans ?_, fun r => (step_eq_refused_iff hok r).trans ?_⟩
    · simp [atReservedPhase, and_assoc]
    · simp [atReservedPin, and_assoc]

end Sys2Proof.Machine
end

section
/-! SUPPORT. What the steps of sound states do: a waiting transaction finishes its phase's step, a host
access reads, starts, configures or does nothing, and the four polls are one poll with the budget and the
error of their phase (R39, R69, R91, R141). -/

namespace Sys2Proof.Machine

section SoundSteps

variable {s t : State}

/-! ### Host accesses -/

theorem exec_decodeRead (idx : BitVec 4) (d : Word) (s : State) :
    ∃ v, exec (decodeRead idx d) s = .next (respond v s) := by
  unfold decodeRead
  split <;> exact ⟨_, rfl⟩

/-- A write acts only as START, or as WR.CONFIG while idle. -/
theorem exec_decodeWrite (idx : BitVec 4) (d : Word) (s : State) :
    (decodeWrite idx d = .wrCtrlStart d ∧ exec (decodeWrite idx d) s = .next (startRead s)) ∨
    (decodeWrite idx d = .wrConfig d ∧ busy s = false ∧
      exec (decodeWrite idx d) s = .next { s with variant := wdataBit0 d }) ∨
    exec (decodeWrite idx d) s = .next s := by
  unfold decodeWrite
  split
  case h_1 =>
    split
    · exact .inl ⟨rfl, rfl⟩
    · exact .inr (.inr rfl)
  case h_2 =>
    cases hb : busy s with
    | true => exact .inr (.inr (by simp [exec, execWrConfig, hb]))
    | false => exact .inr (.inl ⟨rfl, rfl, by simp [exec, execWrConfig, hb]⟩)
  all_goals exact .inr (.inr rfl)

/-- All that a host access can do (R110 to R131). -/
theorem exec_decodeHbus_cases {w : BitVec 37} (h : exec (decodeHbus w) s = .next t) :
    (∃ v, t = respond v s) ∨
    (∃ d, decodeHbus w = .wrCtrlStart d ∧ t = startRead s) ∨
    (∃ d, decodeHbus w = .wrConfig d ∧ busy s = false ∧ t = { s with variant := wdataBit0 d }) ∨
    t = s := by
  unfold decodeHbus at *
  split at h
  · obtain ⟨v, hv⟩ := exec_decodeRead (hbusIDX w) (hbusWDATA w) s
    exact .inl ⟨v, by simpa [hv] using h.symm⟩
  · rename_i hwe
    simp only [if_neg hwe]
    obtain ⟨hd, he⟩ | ⟨hd, hb, he⟩ | he := exec_decodeWrite (hbusIDX w) (hbusWDATA w) s
    · exact .inr (.inl ⟨_, hd, by simpa [he] using h.symm⟩)
    · exact .inr (.inr (.inl ⟨_, hd, hb, by simpa [he] using h.symm⟩))
    · exact .inr (.inr (.inr (by simpa [he] using h.symm)))

/-! ### Waiting transactions -/

theorem pinTx_congr {op : PinOp} {k k' : Bool → State → State}
    (h : ∀ b, k b { takeReply s with port := 0 } = k' b { takeReply s with port := 0 }) :
    pinTx op k s = pinTx op k' s := by
  unfold pinTx
  cases nextReply s with
  | ok b => exact h b
  | err p => rfl
  | silent => rfl

theorem pollStep_of_not_awaitTick {level : PulseLevel} {n : Nat} {e : ErrKind} {success : State → State}
    (h : s.awaitTick = false) :
    pollStep level n e success s = pinTx (sampleOp level) (sampled n e success) s := by
  simp [pollStep, h]

/-- The pin operation that a phase issues, if it issues one (R142, R143, R145). -/
def phasePinOp : Phase → Option PinOp
  | .wakeLow => some .setLow
  | .wakeRelease => some .setHigh
  | .presHigh | .bitRise => some .isHigh
  | .presLow | .bitHigh => some .isLow
  | _ => none

theorem phaseOp_phaseCode (p : Phase) : phaseOp (phaseCode p) = (phasePinOp p).elim 0 pinCode := by
  cases p <;> rfl

/-- A transaction that waited does what the phase that issued it does when answered at once (log 2). -/
theorem exec_pinInstr_eq_exec_phaseInstr {p : Phase} {op : PinOp} (hop : phasePinOp p = some op)
    (hp : s.at p) (ha : s.awaitTick = false) : exec (pinInstr op) s = exec (phaseInstr p) s := by
  have hne {q : Phase} (hq : phaseCode p ≠ phaseCode q) : s.phase ≠ phaseCode q := hp ▸ hq
  cases p <;> cases hop
  case wakeLow => exact congrArg Host.Outcome.next (pinTx_congr fun b => if_pos hp)
  case wakeRelease => exact congrArg Host.Outcome.next (pinTx_congr fun b => if_pos hp)
  all_goals
    refine congrArg Host.Outcome.next (Eq.trans ?_ (pollStep_of_not_awaitTick ha).symm)
    refine pinTx_congr fun b => ?_
  case presHigh => exact if_pos hp
  case presLow => exact if_pos hp
  case bitRise => exact (if_neg (hne (by decide))).trans (if_pos hp)
  case bitHigh => exact (if_neg (hne (by decide))).trans (if_pos hp)

theorem Sound.phase_eq (h : Sound s) : ∃ p, s.at p := by
  obtain ⟨-, hp⟩ | ⟨hge, -⟩ := phaseCode_or_reserved s.phase
  · exact hp
  · have := h.phaseLegal
    omega

/-- A controller step of a sound state is its phase's step, whether a transaction waits or not. -/
theorem Sound.step_controller (h : Sound s) (hc : controllerTurn s) {p : Phase} (hp : s.at p) :
    step s = exec (phaseInstr p) (afterTurn s) := by
  by_cases hport : s.port = 0
  · exact step_phase h.paramsOk hc hport (hp ▸ decodePhase_phaseCode p)
  have hissued : s.port = (phasePinOp p).elim 0 pinCode := by
    rw [← phaseOp_phaseCode, ← hp]
    exact h.portIssued hport
  have ha : s.awaitTick = false := by
    by_contra hne
    exact hport (h.tickWaitInPoll (by simpa using hne)).2
  cases hop : phasePinOp p with
  | none => exact absurd (hissued.trans (by rw [hop]; rfl)) hport
  | some op =>
    have hcode : s.port = pinCode op := hissued.trans (by rw [hop]; rfl)
    rw [step_port h.paramsOk hc hport (hcode ▸ decodePin_pinCode op)]
    exact exec_pinInstr_eq_exec_phaseInstr hop hp ha

/-! ### The polls -/

/-- The level that a polling phase waits for (R142). -/
def pollLevel : Phase → PulseLevel
  | .presHigh | .bitRise => .high
  | _ => .low

/-- What a polling phase does on success (R147, R148, R161, R162). -/
def pollDone : Phase → State → State
  | .presHigh => presHighDone
  | .presLow => presLowDone
  | .bitRise => bitRiseDone
  | .bitHigh => bitHighDone
  | _ => id

/-- The number of samples of a polling phase (R147, R148, R161, R162); 0 elsewhere. -/
def phaseBudget (q : Params) : Phase → Nat
  | .presHigh => q.samples q.tPresHigh
  | .presLow => q.samples q.tPresLow
  | .bitRise => q.samples q.tRise
  | .bitHigh => q.samples q.tHighCap
  | _ => 0

/-- The error that a polling phase raises when its budget is exhausted (R149). -/
def phaseError : Phase → ErrKind
  | .presHigh | .presLow => .notPresent
  | _ => .timeout

theorem pollBudget_eq {p : Phase} (hp : s.at p) : pollBudget s = phaseBudget s.params p := by
  unfold pollBudget
  rw [hp]
  cases p <;> rfl

theorem pollError_eq {p : Phase} (hp : s.at p) : pollError s = phaseError p := by
  unfold pollError
  rw [hp]
  cases p <;> rfl

theorem polling_iff {p : Phase} (hp : s.at p) :
    polling s ↔ p = .presHigh ∨ p = .presLow ∨ p = .bitRise ∨ p = .bitHigh := by
  simp only [polling, State.at, hp, phaseCode_injective.eq_iff]

/-- The four polls are one, with the budget and the error of their phase (R141, R149). -/
theorem exec_poll {p : Phase} (hp : s.at p) (hpoll : polling s) :
    exec (phaseInstr p) s =
      .next (pollStep (pollLevel p) (pollBudget s) (pollError s) (pollDone p) s) := by
  rw [pollBudget_eq hp, pollError_eq hp]
  obtain rfl | rfl | rfl | rfl := (polling_iff hp).mp hpoll <;> rfl

end SoundSteps

end Sys2Proof.Machine
end

section
/-! SUPPORT. Failed samples in a row (R19, R141, R249). -/

namespace Sys2Proof.Machine

section FailedSamples

variable {s t : State}

theorem runFor_succ {n : Nat} (h : step s = .next t) : runFor (n + 1) s = runFor n t := by
  change (match step s with
    | .next u => runFor n u
    | .fault r => .fault r
    | .refused r => .refused r) = _
  rw [h]

theorem toNat_add_one_le (x : BitVec 16) : (x + 1).toNat ≤ x.toNat + 1 := by
  rw [BitVec.toNat_add]
  exact Nat.mod_le ..

/-- What a failed sample with its tick leaves, the line and the time base going on with these lists. -/
def sampleFailed (restL : List PinReply) (restT : List Bool) (s : State) : State :=
  { s with
    ecnt := s.ecnt + 1, line := restL, lineDraws := s.lineDraws + 1, ticks := restT,
    tickDraws := s.tickDraws + 1 }

theorem failedSample_more {n : Nat} (e : ErrKind) (htick : nextTick s = true) (hn : s.ecnt.toNat + 1 ≠ n) :
    failedSample n e s = { takeTick s with ecnt := s.ecnt + 1, awaitTick := false } :=
  (onTick_true _ _ htick).trans (countFailed_more e hn)

theorem step_sampleFailed {restL : List PinReply} {restT : List Bool} (h : Sound s) (hpoll : polling s)
    (hturns : s.turns = []) (hport : s.port = 0) (ha : s.awaitTick = false)
    (hlt : s.ecnt.toNat + 1 < pollBudget s) (hline : s.line = .ok false :: restL)
    (hticks : s.ticks = true :: restT) : step s = .next (sampleFailed restL restT s) := by
  obtain ⟨p, hp⟩ := h.phase_eq
  rw [h.step_controller (.inl hturns) hp, afterTurn_nil hturns, exec_poll hp hpoll,
    pollStep_of_not_awaitTick ha, pinTx_ok _ _ (nextReply_cons hline), sampled, if_neg Bool.false_ne_true,
    failedSample_more (s := { takeReply s with port := 0 }) _ (nextTick_cons hticks) hlt.ne]
  simp [sampleFailed, takeReply, takeTick, hline, hticks, hport, ha]

end FailedSamples

/-- Settles O51, by induction on the number of failed samples. -/
theorem failedSamplesAreCounted : Obligations.FailedSamplesAreCounted := by
  intro s k restL restT
  induction k generalizing s with
  | zero =>
    intro _ _ _ _ _ _ hline hticks
    simp only [List.replicate_zero, List.nil_append] at hline hticks
    rw [← hline, ← hticks]
    exact congrArg Host.Outcome.next (by simp)
  | succ k ih =>
    intro h hpoll hturns hport ha hlt hline hticks
    rw [List.replicate_succ, List.cons_append] at hline hticks
    have hcount := toNat_add_one_le s.ecnt
    have hlt' : (s.ecnt + 1).toNat + k < pollBudget s := by omega
    rw [runFor_succ (step_sampleFailed h hpoll hturns hport ha (by omega) hline hticks),
      ih (sampleFailed _ _ s) (h.of_soundFields rfl) hpoll hturns hport ha hlt' rfl rfl]
    have hecnt : s.ecnt + 1 + BitVec.ofNat 16 k = s.ecnt + BitVec.ofNat 16 (k + 1) := by
      rw [BitVec.add_assoc, BitVec.ofNat_add, BitVec.add_comm (BitVec.ofNat 16 k)]
      rfl
    simp only [sampleFailed, hecnt, Nat.add_assoc, Nat.add_comm 1]

end Sys2Proof.Machine
end

section
/-! SUPPORT. The budgets of the counters, and why every step keeps them (R10, R37, R141, R144, R146). -/

namespace Sys2Proof.Machine

section Budgets

variable {s t : State}

/-! ### Legal parameters -/

theorem budgetOk_iff (n : Nat) : Params.budgetOk n = true ↔ 1 ≤ n ∧ n ≤ 65535 := by
  simp [Params.budgetOk]

/-- The budgets that R10 bounds, of those the counters are loaded with or compared to. -/
theorem delays_legal {q : Params} (h : q.ok = true) :
    (1 ≤ q.tWakeLow ∧ q.tWakeLow ≤ 65535) ∧ (1 ≤ q.tWakeRel ∧ q.tWakeRel ≤ 65535) := by
  simp only [Params.ok, Bool.and_eq_true, budgetOk_iff] at h
  omega

theorem pollBudget_pos (h : s.params.ok = true) (hpoll : polling s) : 0 < pollBudget s := by
  simp only [Params.ok, Bool.and_eq_true, budgetOk_iff] at h
  have hle (n : Nat) : n ≤ s.params.samples n := Nat.le_add_right ..
  obtain hp | hp | hp | hp := hpoll <;>
    (rw [pollBudget_eq hp, phaseBudget]; exact lt_of_lt_of_le (by omega) (hle _))

/-! ### Which states are within their budgets -/

/-- `WithinBudget` looks at the configuration, the phase and the two counts. -/
theorem WithinBudget.of_fields (h : WithinBudget s)
    (e : (t.params, t.phase, t.ecnt, t.dcnt) = (s.params, s.phase, s.ecnt, s.dcnt)) : WithinBudget t := by
  obtain ⟨hpoll, hhold, hsettle⟩ := h
  cases s
  cases t
  simp only [Prod.mk.injEq] at e
  obtain ⟨rfl, rfl, rfl, rfl⟩ := e
  exact ⟨hpoll, hhold, hsettle⟩

/-- The phases that use one of the two counts. -/
def usesCount : Phase → Bool
  | .wakeHold | .wakeSettle | .presHigh | .presLow | .bitRise | .bitHigh => true
  | _ => false

theorem withinBudget_of_not_usesCount {p : Phase} (hp : s.at p) (h : usesCount p = false) :
    WithinBudget s where
  poll hpoll := by
    obtain rfl | rfl | rfl | rfl := (polling_iff hp).mp hpoll <;> cases h
  hold hq := by
    cases phaseCode_injective (hp.symm.trans hq)
    cases h
  settle hq := by
    cases phaseCode_injective (hp.symm.trans hq)
    cases h

theorem not_delay_of_polling (hpoll : polling s) : ¬s.at .wakeHold ∧ ¬s.at .wakeSettle := by
  constructor <;> intro hp <;> simpa using (polling_iff hp).mp hpoll

theorem withinBudget_of_poll_start (hok : s.params.ok = true) (hpoll : polling s) (he : s.ecnt = 0) :
    WithinBudget s where
  poll _ := by simpa [he] using pollBudget_pos hok hpoll
  hold hp := absurd hp (not_delay_of_polling hpoll).1
  settle hp := absurd hp (not_delay_of_polling hpoll).2

theorem raiseError_withinBudget (e : ErrKind) (s : State) : WithinBudget (raiseError e s) :=
  withinBudget_of_not_usesCount (raiseError_phase s e) rfl

/-! ### Each shared operation keeps them -/

theorem pinTx_withinBudget {op : PinOp} {k : Bool → State → State} (hw : WithinBudget s)
    (hk : ∀ b u, u.params = s.params → WithinBudget (k b u)) : WithinBudget (pinTx op k s) := by
  obtain ⟨b, -, h⟩ | ⟨p, -, h⟩ | ⟨-, h⟩ := pinTx_cases op k s <;> rw [h]
  · exact hk b _ rfl
  · exact raiseError_withinBudget ..
  · exact hw.of_fields rfl

/-- The count grows only while it stays below the budget: the last failed sample ends the poll. -/
theorem failedSample_withinBudget {n : Nat} {e : ErrKind} (hn : n = pollBudget s) (hw : WithinBudget s)
    (hpoll : polling s) : WithinBudget (failedSample n e s) := by
  obtain ⟨-, h⟩ | ⟨-, -, h⟩ | ⟨-, hne, h⟩ := failedSample_cases n e s <;> rw [h]
  · exact hw.of_fields rfl
  · exact raiseError_withinBudget ..
  · have hlt : (s.ecnt + 1).toNat < pollBudget s := by
      have := hw.poll hpoll
      have := toNat_add_one_le s.ecnt
      omega
    exact ⟨fun _ => hlt, hw.hold, hw.settle⟩

theorem pollStep_withinBudget {level : PulseLevel} {e : ErrKind} {success : State → State}
    (hw : WithinBudget s) (hpoll : polling s)
    (hsuccess : ∀ u, u.params = s.params → WithinBudget (success u)) :
    WithinBudget (pollStep level (pollBudget s) e success s) := by
  obtain ⟨-, h⟩ | ⟨-, -, h⟩ | ⟨-, -, h⟩ | ⟨p, -, -, h⟩ | ⟨-, -, h⟩ :=
    pollStep_cases level (pollBudget s) e success s <;> rw [h]
  · exact failedSample_withinBudget rfl hw hpoll
  · exact hsuccess _ rfl
  · exact failedSample_withinBudget rfl (hw.of_fields rfl) hpoll
  · exact raiseError_withinBudget ..
  · exact hw.of_fields rfl

theorem pred_within {d : BitVec 16} {n : Nat} (h : 1 ≤ d.toNat ∧ d.toNat ≤ n) (hne : d - 1 ≠ 0) :
    1 ≤ (d - 1).toNat ∧ (d - 1).toNat ≤ n := by
  have hpos : (d - 1).toNat ≠ 0 := fun h0 => hne (BitVec.eq_of_toNat_eq h0)
  have hpred : (d - 1).toNat = d.toNat - 1 := BitVec.toNat_sub_of_le (BitVec.le_def.mpr h.1)
  omega

theorem delayStep_withinBudget {finish : State → State} (hw : WithinBudget s)
    (hfinish : ∀ u, u.params = s.params → WithinBudget (finish u)) :
    WithinBudget (delayStep finish s) := by
  obtain ⟨-, h⟩ | ⟨-, -, h⟩ | ⟨-, hne, h⟩ := delayStep_cases finish s <;> rw [h]
  · exact hw.of_fields rfl
  · exact hfinish _ rfl
  · exact ⟨hw.poll, fun hp => pred_within (hw.hold hp) hne, fun hp => pred_within (hw.settle hp) hne⟩

/-! ### Each phase keeps them -/

theorem toNat_load_within {n : Nat} (h : 1 ≤ n ∧ n ≤ 65535) :
    1 ≤ (BitVec.ofNat 16 n).toNat ∧ (BitVec.ofNat 16 n).toNat ≤ n := by
  rw [BitVec.toNat_ofNat, Nat.mod_eq_of_lt (by omega)]
  exact ⟨h.1, le_rfl⟩

theorem wakeLowDone_withinBudget (hok : s.params.ok = true) : WithinBudget (wakeLowDone s) where
  poll hpoll := absurd rfl (not_delay_of_polling hpoll).1
  hold _ := toNat_load_within (delays_legal hok).1
  settle hp := nomatch (phaseCode_injective hp : Phase.wakeHold = .wakeSettle)

theorem wakeReleaseDone_withinBudget (hok : s.params.ok = true) : WithinBudget (wakeReleaseDone s) where
  poll hpoll := absurd rfl (not_delay_of_polling hpoll).2
  hold hp := nomatch (phaseCode_injective hp : Phase.wakeSettle = .wakeHold)
  settle _ := toNat_load_within (delays_legal hok).2

/-- A poll that succeeds leaves the next poll at its start, or the loop at its end. -/
theorem pollDone_withinBudget {p : Phase} (hok : s.params.ok = true)
    (hp : p = .presHigh ∨ p = .presLow ∨ p = .bitRise ∨ p = .bitHigh) : WithinBudget (pollDone p s) := by
  obtain rfl | rfl | rfl | rfl := hp
  · exact withinBudget_of_poll_start hok (.inr (.inl rfl)) rfl
  · exact withinBudget_of_poll_start hok (.inr (.inr (.inl rfl))) rfl
  · exact withinBudget_of_poll_start hok (.inr (.inr (.inr rfl))) rfl
  · by_cases hlast : s.bitcnt + 1 = 40
    · exact withinBudget_of_not_usesCount (p := .check) ((bitHighDone_phase s).trans (if_pos hlast)) rfl
    · exact withinBudget_of_poll_start hok
        (.inr (.inr (.inl ((bitHighDone_phase s).trans (if_neg hlast))))) rfl

theorem checkFrame_withinBudget (s : State) : WithinBudget (checkFrame s) := by
  by_cases h : frameByte s.frame 4 = checksum s.frame
  · rw [checkFrame_pass h]
    exact withinBudget_of_not_usesCount (p := .decode) rfl rfl
  · rw [checkFrame_fail h]
    exact raiseError_withinBudget ..

theorem decodeStep_withinBudget (s : State) : WithinBudget (decodeStep s) := by
  cases h : humidityInRange (decodeFrame s.lvar s.frame).1 with
  | true =>
    rw [decodeStep_inRange h]
    exact withinBudget_of_not_usesCount (p := .complete) rfl rfl
  | false =>
    rw [decodeStep_outOfRange h]
    exact raiseError_withinBudget ..

theorem exec_phaseInstr_withinBudget {p : Phase} (hok : s.params.ok = true) (hp : s.at p)
    (hw : WithinBudget s) (h : exec (phaseInstr p) s = .next t) : WithinBudget t := by
  by_cases hpoll : polling s
  · rw [exec_poll hp hpoll] at h
    cases h
    exact pollStep_withinBudget hw hpoll fun u hu =>
      pollDone_withinBudget (hu ▸ hok) ((polling_iff hp).mp hpoll)
  cases p <;> injection h with h <;> subst h
  case wakeLow => exact pinTx_withinBudget hw fun _ u hu => wakeLowDone_withinBudget (hu ▸ hok)
  case wakeRelease => exact pinTx_withinBudget hw fun _ u hu => wakeReleaseDone_withinBudget (hu ▸ hok)
  case wakeHold =>
    exact delayStep_withinBudget hw fun u _ => withinBudget_of_not_usesCount (p := .wakeRelease) rfl rfl
  case wakeSettle =>
    exact delayStep_withinBudget hw fun u hu => withinBudget_of_poll_start (hu ▸ hok) (.inl rfl) rfl
  case check => exact checkFrame_withinBudget s
  case decode => exact decodeStep_withinBudget s
  case idle => exact hw
  case complete => exact hw
  all_goals exact absurd ((polling_iff hp).mpr (by simp)) hpoll

/-! ### Each turn keeps them -/

theorem startRead_withinBudget (hw : WithinBudget s) : WithinBudget (startRead s) := by
  cases hb : busy s with
  | true => exact (startRead_busy s hb).symm ▸ hw
  | false => exact withinBudget_of_not_usesCount (p := .wakeLow) (by rw [startRead_not_busy s hb]) rfl

theorem exec_decodeHbus_withinBudget {w : BitVec 37} (hw : WithinBudget s)
    (h : exec (decodeHbus w) s = .next t) : WithinBudget t := by
  obtain ⟨v, rfl⟩ | ⟨d, -, rfl⟩ | ⟨d, -, -, rfl⟩ | rfl := exec_decodeHbus_cases h
  · exact hw.of_fields rfl
  · exact startRead_withinBudget hw
  · exact hw.of_fields rfl
  · exact hw

end Budgets

/-- Settles O47, turn by turn: a host access, a reset, or the step of the present phase. -/
theorem countersStayWithinBudget : Obligations.CountersStayWithinBudget := by
  intro s t hs hw h
  have hw' : WithinBudget (afterTurn s) := hw.of_fields rfl
  obtain ⟨w, ts, ht⟩ | ⟨ts, ht⟩ | hc := turn_cases s
  · rw [step_host hs.paramsOk ht] at h
    exact exec_decodeHbus_withinBudget hw' h
  · rw [step_reset hs.paramsOk ht] at h
    cases h
    exact withinBudget_of_not_usesCount (p := .idle) rfl rfl
  · obtain ⟨p, hp⟩ := hs.phase_eq
    rw [hs.step_controller hc hp] at h
    exact exec_phaseInstr_withinBudget (s := afterTurn s) hs.paramsOk hp hw' h

end Sys2Proof.Machine
end

section
/-! SUPPORT. What a step can do to the registers, said once: the outcomes of a step of a sound state, each
with its cause (R22, R39, R69, R112, R115, R141, R180, R187, R215, R240). -/

namespace Sys2Proof.Machine

section Effects

variable {s t : State}

/-! ### Phases that issue a transaction -/

/-- What a phase does when its transaction, its delay or its poll succeeds (R22). -/
def phaseDone : Phase → State → State
  | .wakeLow => wakeLowDone
  | .wakeHold => wakeHoldDone
  | .wakeRelease => wakeReleaseDone
  | .wakeSettle => wakeSettleDone
  | p => pollDone p

/-- What a phase that issues a transaction does with its `Ok(b)` (R141, R143, R145). -/
def phaseAnswered (q : Params) : Phase → Bool → State → State
  | .wakeLow, _ => wakeLowDone
  | .wakeRelease, _ => wakeReleaseDone
  | p, b => sampled (phaseBudget q p) (phaseError p) (pollDone p) b

/-- A pin operation run from the port, in a phase that issues it (R86). -/
theorem exec_pinInstr {p : Phase} {op : PinOp} (hop : phasePinOp p = some op) (hp : s.at p) :
    exec (pinInstr op) s = .next (pinTx op (phaseAnswered s.params p) s) := by
  have hne {q : Phase} (hq : phaseCode p ≠ phaseCode q) : s.phase ≠ phaseCode q := hp ▸ hq
  cases p <;> cases hop <;> refine congrArg Host.Outcome.next (pinTx_congr fun b => ?_)
  case wakeLow | wakeRelease | presHigh | presLow => exact if_pos hp
  case bitRise | bitHigh => exact (if_neg (hne (by decide))).trans (if_pos hp)

/-- A phase that issues a transaction, where no failed sample waits for its tick. -/
theorem exec_issuingPhase {p : Phase} {op : PinOp} (hop : phasePinOp p = some op) (hp : s.at p)
    (ha : s.awaitTick = false) :
    exec (phaseInstr p) s = .next (pinTx op (phaseAnswered s.params p) s) :=
  (exec_pinInstr_eq_exec_phaseInstr hop hp ha).symm.trans (exec_pinInstr hop hp)

/-- The answer completes the phase, or is a poll's failed sample. -/
theorem phaseAnswered_cases {p : Phase} {op : PinOp} (hop : phasePinOp p = some op) (b : Bool)
    (hp : s.at p) (u : State) :
    phaseAnswered s.params p b u = phaseDone p u ∨
      (b = false ∧ polling s ∧
        phaseAnswered s.params p b u = failedSample (pollBudget s) (pollError s) u) := by
  rw [polling_iff hp, pollBudget_eq hp, pollError_eq hp]
  cases p <;> cases hop
  case wakeLow | wakeRelease => exact .inl rfl
  all_goals
    cases b
    · exact .inr ⟨rfl, by simp, rfl⟩
    · exact .inl rfl

/-! ### Waits -/

/-- The registers of `s`, with the counts, the waits, the response and the inputs of `w`. -/
def withWaits (s w : State) : State :=
  { s with
    ecnt := w.ecnt, dcnt := w.dcnt, port := w.port, awaitTick := w.awaitTick, rdata := w.rdata,
    turns := w.turns, line := w.line, lineDraws := w.lineDraws, ticks := w.ticks,
    tickDraws := w.tickDraws }

/-- Nothing is waited for. -/
def NoWait (w : State) : Prop := w.port = 0 ∧ w.awaitTick = false

/-- What is waited for is what the phase of `s` can wait for (R39, R40). -/
structure LegalWait (s w : State) : Prop where
  port : w.port ≠ 0 → w.port = phaseOp s.phase
  awaitTick : w.awaitTick = true → polling s ∧ w.port = 0

theorem NoWait.legalWait {w : State} (h : NoWait w) : LegalWait s w where
  port hne := absurd h.1 hne
  awaitTick ht := by simp [h.2] at ht

theorem Sound.legalWait {w : State} (h : Sound s) (hport : w.port = s.port)
    (ha : w.awaitTick = s.awaitTick) : LegalWait s w where
  port := hport ▸ h.portIssued
  awaitTick := hport ▸ ha ▸ h.tickWaitInPoll

/-- A phase that issues no transaction waits for none, and for no tick of a sample. -/
theorem Sound.noWait (h : Sound s) {p : Phase} (hp : s.at p) (hop : phasePinOp p = none) : NoWait s := by
  constructor
  · by_contra hne
    refine hne ((h.portIssued hne).trans ?_)
    rw [hp, phaseOp_phaseCode, hop]
    rfl
  · by_contra hne
    obtain rfl | rfl | rfl | rfl := (polling_iff hp).mp (h.tickWaitInPoll (by simpa using hne)).1 <;>
      cases hop

/-! ### The outcomes of a step -/

/-- The phases that end in another phase of R22 by `phaseDone`. -/
def advances : Phase → Bool
  | .idle | .check | .decode | .complete => false
  | _ => true

/-- The state once CHECK has written CKSUM (R180). -/
def withCksum (s : State) : State :=
  { s with cksumReceived := frameByte s.frame 4, cksumCalc := checksum s.frame, ckv := 1 }

/-- What a step of a sound state leaves, by its cause. -/
inductive StepEffect (s : State) : State → Prop
  /-- The registers stand: a read, a write without effect, a wait, or a count in a delay or a poll. -/
  | stay (w : State) (hw : LegalWait s w) : StepEffect s (withWaits s w)
  /-- An accepted START (R112). -/
  | start {r : BitVec 37} {ts : List Turn} {d : Word} (ht : s.turns = .host r :: ts)
      (hd : decodeHbus r = .wrCtrlStart d) (hb : busy s = false) : StepEffect s (started (afterTurn s))
  /-- An accepted WR.CONFIG (R115). -/
  | config {r : BitVec 37} {ts : List Turn} {d : Word} (ht : s.turns = .host r :: ts)
      (hd : decodeHbus r = .wrConfig d) (hb : busy s = false) :
      StepEffect s { afterTurn s with variant := wdataBit0 d }
  /-- The platform's reset (R240). -/
  | reset {ts : List Turn} (ht : s.turns = .reset :: ts) : StepEffect s (resetBlock (afterTurn s))
  /-- A phase before CHECK ends with success (R22). -/
  | advance {p : Phase} (hc : controllerTurn s) (hp : s.at p) (ha : advances p = true) (w : State)
      (hw : NoWait w) : StepEffect s (phaseDone p (withWaits s w))
  /-- A poll exhausts its budget (R149). -/
  | exhaust (hc : controllerTurn s) (hpoll : polling s) (hn : s.ecnt.toNat + 1 = pollBudget s) (w : State)
      (hw : NoWait w) : StepEffect s (raiseError (pollError s) (withWaits s w))
  /-- A transaction returns `Err` (R215). -/
  | pinError {p : Phase} {op : PinOp} {payload : Word} (hc : controllerTurn s) (hp : s.at p)
      (hop : phasePinOp p = some op) (hr : nextReply s = .err payload) (w : State) (hw : NoWait w) :
      StepEffect s (raiseError (.pinError payload op) (withWaits s w))
  /-- CHECK finds the checksum right (R180). -/
  | checkPass (hc : controllerTurn s) (hp : s.at .check) (hsum : frameByte s.frame 4 = checksum s.frame) :
      StepEffect s { withCksum (afterTurn s) with phase := phaseCode .decode }
  /-- CHECK finds the checksum wrong (R180). -/
  | checkFail (hc : controllerTurn s) (hp : s.at .check) (hsum : frameByte s.frame 4 ≠ checksum s.frame) :
      StepEffect s (raiseError .checksumMismatch (withCksum (afterTurn s)))
  /-- DECODE gives a Reading (R187, R190). -/
  | decodePass (hc : controllerTurn s) (hp : s.at .decode)
      (hh : humidityInRange (decodeFrame s.lvar s.frame).1 = true) :
      StepEffect s
        (succeed (decodeFrame s.lvar s.frame).1 (decodeFrame s.lvar s.frame).2 (afterTurn s))
  /-- DECODE rejects the humidity (R187). -/
  | decodeFail (hc : controllerTurn s) (hp : s.at .decode)
      (hh : humidityInRange (decodeFrame s.lvar s.frame).1 = false) :
      StepEffect s (raiseError .invalidData (afterTurn s))

/-- A poll whose failed sample waits for its tick takes no new sample. -/
theorem pollStep_waiting {level : PulseLevel} {n : Nat} {e : ErrKind} {success : State → State}
    (ha : s.awaitTick = true) : pollStep level n e success s = failedSample n e s :=
  if_pos ha

/-- A failed sample leaves the registers, or ends the poll. -/
theorem stepEffect_failedSample {w : State} (hc : controllerTurn s) (hpoll : polling s)
    (he : w.ecnt = s.ecnt) (hport : w.port = 0) :
    StepEffect s (failedSample (pollBudget s) (pollError s) (withWaits s w)) := by
  have hw : NoWait { takeTick w with ecnt := w.ecnt + 1, awaitTick := false } := ⟨hport, rfl⟩
  obtain ⟨-, h⟩ | ⟨-, hn, h⟩ | ⟨-, -, h⟩ :=
    failedSample_cases (pollBudget s) (pollError s) (withWaits s w) <;> rw [h]
  · exact .stay { takeTick w with awaitTick := true }
      ⟨fun hne => absurd hport hne, fun _ => ⟨hpoll, hport⟩⟩
  · exact .exhaust hc hpoll (he ▸ hn) _ hw
  · exact .stay _ hw.legalWait

theorem stepEffect_delayStep {p : Phase} (h : Sound s) (hc : controllerTurn s) (hp : s.at p)
    (hop : phasePinOp p = none) (ha : advances p = true) :
    StepEffect s (delayStep (phaseDone p) (afterTurn s)) := by
  have hw : NoWait (takeTick (afterTurn s)) := h.noWait hp hop
  have hw' : NoWait { takeTick (afterTurn s) with dcnt := s.dcnt - 1 } := hw
  obtain ⟨-, h⟩ | ⟨-, -, h⟩ | ⟨-, -, h⟩ := delayStep_cases (phaseDone p) (afterTurn s) <;> rw [h]
  · exact .stay _ hw.legalWait
  · exact .advance hc hp ha _ hw'
  · exact .stay _ hw'.legalWait

theorem advances_of_phasePinOp {p : Phase} {op : PinOp} (hop : phasePinOp p = some op) :
    advances p = true := by
  cases p <;> cases hop <;> rfl

theorem stepEffect_issuingPhase {p : Phase} {op : PinOp} (h : Sound s) (hc : controllerTurn s)
    (hp : s.at p) (hop : phasePinOp p = some op) (hs : exec (phaseInstr p) (afterTurn s) = .next t) :
    StepEffect s t := by
  cases ha : s.awaitTick with
  | true =>
    obtain ⟨hpoll, hport⟩ := h.tickWaitInPoll ha
    rw [exec_poll (s := afterTurn s) hp hpoll, pollStep_waiting (s := afterTurn s) ha] at hs
    cases hs
    exact stepEffect_failedSample (w := afterTurn s) hc hpoll rfl hport
  | false =>
    rw [exec_issuingPhase (s := afterTurn s) hop hp ha] at hs
    injection hs with hs
    obtain ⟨b, -, hb⟩ | ⟨payload, hr, he⟩ | ⟨-, hw⟩ :=
      pinTx_cases op (phaseAnswered (afterTurn s).params p) (afterTurn s)
    · rw [← hs, hb]
      obtain hd | ⟨-, hpoll, hf⟩ := phaseAnswered_cases (s := afterTurn s) hop b hp
        { takeReply (afterTurn s) with port := 0 }
      · rw [hd]
        exact .advance hc hp (advances_of_phasePinOp hop) { takeReply (afterTurn s) with port := 0 }
          ⟨rfl, ha⟩
      · rw [hf]
        exact stepEffect_failedSample (w := { takeReply (afterTurn s) with port := 0 }) hc hpoll rfl rfl
    · rw [← hs, he]
      exact .pinError hc hp hop hr { takeReply (afterTurn s) with port := 0 } ⟨rfl, ha⟩
    · rw [← hs, hw]
      refine .stay { takeReply (afterTurn s) with port := pinCode op }
        ⟨fun _ => ?_, fun ht => absurd (ha.symm.trans ht) Bool.false_ne_true⟩
      rw [hp, phaseOp_phaseCode, hop]
      rfl

theorem stepEffect_checkFrame (hc : controllerTurn s) (hp : s.at .check) :
    StepEffect s (checkFrame (afterTurn s)) := by
  by_cases hsum : frameByte s.frame 4 = checksum s.frame
  · rw [checkFrame_pass (s := afterTurn s) hsum]
    exact .checkPass hc hp hsum
  · rw [checkFrame_fail (s := afterTurn s) hsum]
    exact .checkFail hc hp hsum

theorem stepEffect_decodeStep (hc : controllerTurn s) (hp : s.at .decode) :
    StepEffect s (decodeStep (afterTurn s)) := by
  cases hh : humidityInRange (decodeFrame s.lvar s.frame).1 with
  | true =>
    rw [decodeStep_inRange (s := afterTurn s) hh]
    exact .decodePass hc hp hh
  | false =>
    rw [decodeStep_outOfRange (s := afterTurn s) hh]
    exact .decodeFail hc hp hh

theorem stepEffect_controller (h : Sound s) (hc : controllerTurn s) (hs : step s = .next t) :
    StepEffect s t := by
  obtain ⟨p, hp⟩ := h.phase_eq
  rw [h.step_controller hc hp] at hs
  cases hop : phasePinOp p with
  | some op => exact stepEffect_issuingPhase h hc hp hop hs
  | none =>
    cases p <;> injection hs with hs <;> subst hs
    case idle | complete => exact .stay (afterTurn s) (h.legalWait rfl rfl)
    case wakeHold | wakeSettle => exact stepEffect_delayStep h hc hp rfl rfl
    case check => exact stepEffect_checkFrame hc hp
    case decode => exact stepEffect_decodeStep hc hp
    all_goals cases hop

theorem startRead_eq_started (hb : busy s = false) : startRead s = started s := startRead_not_busy s hb

theorem stepEffect_host {r : BitVec 37} {ts : List Turn} (h : Sound s) (ht : s.turns = .host r :: ts)
    (hs : exec (decodeHbus r) (afterTurn s) = .next t) : StepEffect s t := by
  obtain ⟨v, rfl⟩ | ⟨d, hd, rfl⟩ | ⟨d, hd, hb, rfl⟩ | rfl := exec_decodeHbus_cases hs
  · exact .stay (respond v (afterTurn s)) (h.legalWait rfl rfl)
  · cases hb : busy s with
    | true =>
      rw [startRead_busy (afterTurn s) hb]
      exact .stay (afterTurn s) (h.legalWait rfl rfl)
    | false =>
      rw [startRead_eq_started (s := afterTurn s) hb]
      exact .start ht hd hb
  · exact .config ht hd hb
  · exact .stay (afterTurn s) (h.legalWait rfl rfl)

/-- All that a step of a sound state can do. -/
theorem Sound.stepEffect (h : Sound s) (hs : step s = .next t) : StepEffect s t := by
  obtain ⟨r, ts, ht⟩ | ⟨ts, ht⟩ | hc := turn_cases s
  · exact stepEffect_host h ht (step_host h.paramsOk ht ▸ hs)
  · rw [step_reset h.paramsOk ht] at hs
    cases hs
    exact .reset ht
  · exact stepEffect_controller h hc hs

end Effects

end Sys2Proof.Machine
end

section
/-! SUPPORT. Why every step keeps R47's invariants and what they rest on: a sound state is at the end of a
read, or one that has not ended, with the bit count and the CKSUM of its phase (R22, R47). -/

namespace Sys2Proof.Machine

section Soundness

variable {s t : State}

/-! ### Reads that have not ended -/

/-- The bit count that a phase before COMPLETE has (R22). -/
def phaseBits : Phase → BitVec 6 → Prop
  | .bitRise, b | .bitHigh, b => b.toNat < 40
  | .check, b | .decode, b => b = 40
  | _, b => b = 0

/-- What CKSUM tells in a phase before COMPLETE (R22, R180). -/
def phaseCksum : Phase → State → Prop
  | .decode, s => s.ckv = 1 ∧ s.cksumReceived = s.cksumCalc
  | _, s => s.ckv = 0

/-- What a sound state holds in a phase before COMPLETE. -/
structure Unended (p : Phase) (s : State) : Prop where
  valid : s.valid = 0
  err : s.err = 0
  pinop : s.pinop = 0
  bits : phaseBits p s.bitcnt
  cksum : phaseCksum p s

theorem phaseBits_le {p : Phase} {b : BitVec 6} (h : phaseBits p b) : b.toNat ≤ 40 := by
  cases p
  case bitRise | bitHigh => exact Nat.le_of_lt h
  all_goals
    cases h
    decide

theorem not_at {p q : Phase} (hp : s.at p) (h : p ≠ q) : ¬s.at q :=
  fun hq => h (phaseCode_injective (hp.symm.trans hq))

theorem bit_cases (b : BitVec 1) : b = 0 ∨ b = 1 := by
  revert b
  decide

theorem not_busy_and_done (s : State) : ¬(busy s = true ∧ done s = true) := by
  simp [busy, done]

theorem Sound.unended (h : Sound s) {p : Phase} (hp : s.at p) (hne : p ≠ .complete) : Unended p s := by
  have hnot : ¬s.at .complete := not_at hp hne
  have herr : s.err = 0 := by
    by_contra he
    exact hnot (h.r47.errImplies he).1
  exact
    { valid := (bit_cases s.valid).resolve_right fun hv => hnot (h.r47.validImplies hv).1
      err := herr
      pinop := by
        by_contra hop
        have he := h.r47.pinopIff.mp hop
        simp [herr] at he
      bits := by
        cases p
        case bitRise => exact h.loopBits (.inl hp)
        case bitHigh => exact h.loopBits (.inr hp)
        case check => exact h.checkBits (.inl hp)
        case decode => exact h.checkBits (.inr hp)
        case complete => exact absurd rfl hne
        all_goals exact h.noBitsBeforeLoop (hp ▸ by decide)
      cksum := by
        cases p
        case decode => exact h.decodeChecked hp
        case complete => exact absurd rfl hne
        all_goals exact h.checkNotRunYet (hp ▸ by decide) }

theorem Sound.unended_of_polling (h : Sound s) (hpoll : polling s) : ∃ p, s.at p ∧ Unended p s := by
  obtain ⟨p, hp⟩ := h.phase_eq
  refine ⟨p, hp, h.unended hp ?_⟩
  rintro rfl
  simpa using (polling_iff hp).mp hpoll

theorem Unended.r47 {p : Phase} (h : Unended p s) (hp : s.at p) (hne : p ≠ .complete) : R47 s where
  notBusyAndDone := not_busy_and_done s
  validImplies hv := by simp [h.valid] at hv
  errImplies he := absurd h.err he
  completeWithoutErr hc := absurd hc (not_at hp hne)
  bitcntBound := phaseBits_le h.bits
  mismatchImplies he := by simp [h.err] at he
  pinopIff := by simp [h.pinop, h.err]

theorem Unended.sound {p : Phase} (h : Unended p s) (hp : s.at p) (hne : p ≠ .complete)
    (hok : s.params.ok = true) (hw : NoWait s) : Sound s where
  r47 := h.r47 hp hne
  paramsOk := hok
  phaseLegal := by
    rw [hp]
    cases p <;> decide
  errLegal := by simp [h.err]
  portIssued hport := absurd hw.1 hport
  tickWaitInPoll ha := by simp [hw.2] at ha
  noBitsBeforeLoop hle := by
    rw [hp] at hle
    obtain ⟨-, -, -, hbits, -⟩ := h
    cases p
    case bitRise | bitHigh | check | decode | complete => exact absurd hle (by decide)
    all_goals exact hbits
  loopBits hq := by
    obtain ⟨-, -, -, hbits, -⟩ := h
    obtain hq | hq := hq <;>
      (cases phaseCode_injective (hp.symm.trans hq); exact hbits)
  checkBits hq := by
    obtain ⟨-, -, -, hbits, -⟩ := h
    obtain hq | hq := hq <;>
      (cases phaseCode_injective (hp.symm.trans hq); exact hbits)
  decodeChecked hq := by
    cases phaseCode_injective (hp.symm.trans hq)
    exact h.cksum
  checkNotRunYet hle := by
    rw [hp] at hle
    obtain ⟨-, -, -, -, hcksum⟩ := h
    cases p
    case decode | complete => exact absurd hle (by decide)
    all_goals exact hcksum

/-! ### Ends of reads -/

/-- In COMPLETE only R47, the error code and the absence of waits are left of `Sound`. -/
theorem sound_complete (h : R47 s) (hp : s.at .complete) (hok : s.params.ok = true)
    (herr : s.err.toNat ≤ 5) (hw : NoWait s) : Sound s where
  r47 := h
  paramsOk := hok
  phaseLegal := hp ▸ by decide
  errLegal := herr
  portIssued hport := absurd hw.1 hport
  tickWaitInPoll ha := by simp [hw.2] at ha
  noBitsBeforeLoop hle := absurd hle (hp ▸ by decide)
  loopBits hq := by simp [State.at, hp, phaseCode] at hq
  checkBits hq := by simp [State.at, hp, phaseCode] at hq
  decodeChecked hq := by simp [State.at, hp, phaseCode] at hq
  checkNotRunYet hle := absurd hle (hp ▸ by decide)

/-- What the registers must show when an error is raised (R210). -/
def ErrorFits (s : State) : ErrKind → Prop
  | .notPresent => s.bitcnt = 0 ∧ s.ckv = 0
  | .checksumMismatch => s.ckv = 1 ∧ s.cksumReceived ≠ s.cksumCalc
  | .invalidData =>
    s.ckv = 1 ∧ s.cksumReceived = s.cksumCalc ∧ humidityInRange (decodeFrame s.lvar s.frame).1 = false
  | .timeout => s.bitcnt.toNat < 40 ∧ s.ckv = 0
  | .pinError _ _ => True

theorem errCode_legal (e : ErrKind) : errCode e ≠ 0 ∧ (errCode e).toNat ≤ 5 := by
  cases e <;> simp [errCode]

theorem raiseError_r47 {e : ErrKind} (hfit : ErrorFits s e) (hbits : s.bitcnt.toNat ≤ 40)
    (hop : s.pinop = 0) : R47 (raiseError e s) where
  notBusyAndDone := not_busy_and_done _
  validImplies hv := by simp at hv
  errImplies _ := ⟨raiseError_phase s e, raiseError_valid s e⟩
  completeWithoutErr _ he := absurd ((raiseError_err s e).symm.trans he) (errCode_legal e).1
  bitcntBound := by simpa using hbits
  mismatchImplies he := by
    rw [raiseError_err] at he
    cases e
    case checksumMismatch => exact hfit
    all_goals cases he
  pinopIff := by
    cases e
    case pinError p op => simpa [errCode] using pinCode_ne_zero op
    all_goals simp [errCode, hop]

theorem raiseError_sound {e : ErrKind} (hfit : ErrorFits s e) (hbits : s.bitcnt.toNat ≤ 40)
    (hop : s.pinop = 0) (hok : s.params.ok = true) (hw : NoWait s) : Sound (raiseError e s) :=
  sound_complete (raiseError_r47 hfit hbits hop) (raiseError_phase s e) (by simpa using hok)
    (by simpa using (errCode_legal e).2) (by simpa [NoWait] using hw)

theorem succeed_sound {v : Word} (h : Unended .decode s) (hh : humidityInRange v = true) (x : Word)
    (hok : s.params.ok = true) (hw : NoWait s) : Sound (succeed v x s) := by
  obtain ⟨-, herr, hpinop, hbits, hckv, hsum⟩ := h
  have hr47 : R47 (succeed v x s) :=
    { notBusyAndDone := not_busy_and_done _
      validImplies := fun _ => ⟨rfl, herr, hbits, hckv, hsum, hh⟩
      errImplies := fun he => absurd herr he
      completeWithoutErr := fun _ _ => rfl
      bitcntBound := phaseBits_le (p := .decode) hbits
      mismatchImplies := fun he => by simp [herr] at he
      pinopIff := by simp [herr, hpinop] }
  exact sound_complete hr47 rfl hok (by simp [herr]) hw

/-! ### Each outcome of a step keeps them -/

section PhaseDone

variable (p : Phase) (s : State)

@[simp] theorem phaseDone_params : (phaseDone p s).params = s.params := by cases p <;> rfl
@[simp] theorem phaseDone_lvar : (phaseDone p s).lvar = s.lvar := by cases p <;> rfl
@[simp] theorem phaseDone_variant : (phaseDone p s).variant = s.variant := by cases p <;> rfl
@[simp] theorem phaseDone_valid : (phaseDone p s).valid = s.valid := by cases p <;> rfl
@[simp] theorem phaseDone_err : (phaseDone p s).err = s.err := by cases p <;> rfl
@[simp] theorem phaseDone_pinop : (phaseDone p s).pinop = s.pinop := by cases p <;> rfl
@[simp] theorem phaseDone_cksumReceived : (phaseDone p s).cksumReceived = s.cksumReceived := by
  cases p <;> rfl
@[simp] theorem phaseDone_cksumCalc : (phaseDone p s).cksumCalc = s.cksumCalc := by cases p <;> rfl
@[simp] theorem phaseDone_ckv : (phaseDone p s).ckv = s.ckv := by cases p <;> rfl
@[simp] theorem phaseDone_humidity : (phaseDone p s).humidity = s.humidity := by cases p <;> rfl
@[simp] theorem phaseDone_temperature : (phaseDone p s).temperature = s.temperature := by cases p <;> rfl
@[simp] theorem phaseDone_pinerr : (phaseDone p s).pinerr = s.pinerr := by cases p <;> rfl
@[simp] theorem phaseDone_port : (phaseDone p s).port = s.port := by cases p <;> rfl
@[simp] theorem phaseDone_awaitTick : (phaseDone p s).awaitTick = s.awaitTick := by cases p <;> rfl

end PhaseDone

/-- The phase after one that advances (R22), for the bit count that it leaves. -/
def successor : Phase → BitVec 6 → Phase
  | .wakeLow, _ => .wakeHold
  | .wakeHold, _ => .wakeRelease
  | .wakeRelease, _ => .wakeSettle
  | .wakeSettle, _ => .presHigh
  | .presHigh, _ => .presLow
  | .presLow, _ => .bitRise
  | .bitRise, _ => .bitHigh
  | .bitHigh, b => if b = 40 then .check else .bitRise
  | p, _ => p

theorem phaseDone_at {p : Phase} (ha : advances p = true) :
    (phaseDone p s).at (successor p (phaseDone p s).bitcnt) := by
  cases p
  case bitHigh => exact (apply_ite phaseCode _ _ _).symm
  case idle | check | decode | complete => cases ha
  all_goals rfl

theorem toNat_succ_lt {b : BitVec 6} (h : b.toNat < 40) (hne : b + 1 ≠ 40) : (b + 1).toNat < 40 := by
  have hne' : (b + 1).toNat ≠ 40 := fun h40 => hne (BitVec.eq_of_toNat_eq h40)
  rw [BitVec.toNat_add, Nat.mod_eq_of_lt (by simpa using by omega)] at *
  exact lt_of_le_of_ne h hne'

/-- The bit count that an advancing phase leaves is one that the next phase starts from (R22). -/
theorem phaseDone_bits {p : Phase} (ha : advances p = true) (h : phaseBits p s.bitcnt) :
    phaseBits (successor p (phaseDone p s).bitcnt) (phaseDone p s).bitcnt := by
  cases p
  case bitHigh =>
    by_cases hlast : s.bitcnt + 1 = 40
    · have hb : (phaseDone .bitHigh s).bitcnt = 40 := hlast
      rw [hb]
      exact (rfl : (40 : BitVec 6) = 40)
    · have hb : successor .bitHigh (phaseDone .bitHigh s).bitcnt = .bitRise := if_neg hlast
      rw [hb]
      exact toNat_succ_lt h hlast
  case presLow =>
    have hb : s.bitcnt = 0 := h
    change s.bitcnt.toNat < 40
    simp [hb]
  case idle | check | decode | complete => cases ha
  all_goals exact h

theorem successor_before_decode {p : Phase} (ha : advances p = true) (b : BitVec 6) :
    successor p b ≠ .decode ∧ successor p b ≠ .complete := by
  cases p
  case bitHigh =>
    by_cases hb : b = 40#6 <;> simp [successor, hb]
  case idle | check | decode | complete => cases ha
  all_goals simp [successor]

theorem phaseCksum_iff {p : Phase} (h : p ≠ .decode) : phaseCksum p s ↔ s.ckv = 0 := by
  cases p
  case decode => exact absurd rfl h
  all_goals rfl

theorem ne_complete_of_advances {p : Phase} (ha : advances p = true) : p ≠ .complete := by
  rintro rfl
  cases ha

theorem Unended.ckv {p : Phase} (h : Unended p s) (ha : advances p = true) : s.ckv = 0 :=
  (phaseCksum_iff (by rintro rfl; cases ha)).mp h.cksum

theorem Unended.phaseDone {p : Phase} (h : Unended p s) (ha : advances p = true) :
    Unended (successor p (phaseDone p s).bitcnt) (phaseDone p s) where
  valid := by simpa using h.valid
  err := by simpa using h.err
  pinop := by simpa using h.pinop
  bits := phaseDone_bits ha h.bits
  cksum := (phaseCksum_iff (successor_before_decode ha _).1).mpr (by simpa using h.ckv ha)

theorem phaseDone_sound {p : Phase} (h : Unended p s) (ha : advances p = true) (hok : s.params.ok = true)
    (hw : NoWait s) : Sound (phaseDone p s) :=
  (h.phaseDone ha).sound (phaseDone_at ha) (successor_before_decode ha _).2 (by simpa using hok)
    (by simpa [NoWait] using hw)

/-- `Unended` looks at registers only. -/
theorem Unended.withWaits {p : Phase} (h : Unended p s) (w : State) : Unended p (withWaits s w) :=
  ⟨h.valid, h.err, h.pinop, h.bits, by cases p <;> exact h.cksum⟩

theorem Sound.withWaits {w : State} (h : Sound s) (hw : LegalWait s w) : Sound (withWaits s w) :=
  { h with
    r47 := { h.r47 with notBusyAndDone := not_busy_and_done _ }
    portIssued := hw.port
    tickWaitInPoll := hw.awaitTick }

theorem started_sound (hok : s.params.ok = true) (hw : NoWait s) : Sound (started s) :=
  Unended.sound (p := .wakeLow) ⟨rfl, rfl, rfl, rfl, rfl⟩ rfl nofun hok hw

theorem resetBlock_sound (hok : s.params.ok = true) : Sound (resetBlock s) :=
  Unended.sound (p := .idle) ⟨rfl, rfl, rfl, rfl, rfl⟩ rfl nofun hok ⟨rfl, rfl⟩

theorem not_busy_iff : busy s = false ↔ s.at .idle ∨ s.at .complete := by
  simp [busy, State.at, or_iff_not_imp_left]

/-- Where no read is in progress nothing is waited for. -/
theorem Sound.noWait_of_not_busy (h : Sound s) (hb : busy s = false) : NoWait s := by
  obtain hp | hp := not_busy_iff.mp hb <;> exact h.noWait hp rfl

/-- A poll's error stands in the handshake with no bit, in the loop with fewer than 40 (R149, R210). -/
theorem Sound.pollError_fits (h : Sound s) (hpoll : polling s) (w : State) :
    ErrorFits (Machine.withWaits s w) (pollError s) := by
  obtain ⟨p, hp, hu⟩ := h.unended_of_polling hpoll
  rw [pollError_eq hp]
  obtain rfl | rfl | rfl | rfl := (polling_iff hp).mp hpoll <;> exact ⟨hu.bits, hu.cksum⟩

end Soundness

/-- Settles O46, by the outcomes of a step. -/
theorem everyStepKeepsTheInvariantsOfR47 : Obligations.EveryStepKeepsTheInvariantsOfR47 := by
  intro s t h hs
  cases h.stepEffect hs with
  | stay w hw => exact h.withWaits hw
  | start _ _ hb =>
    have hw := h.noWait_of_not_busy hb
    exact started_sound h.paramsOk hw
  | config => exact h.of_soundFields rfl
  | reset => exact resetBlock_sound h.paramsOk
  | advance _ hp ha w hw =>
    exact phaseDone_sound ((h.unended hp (ne_complete_of_advances ha)).withWaits w) ha h.paramsOk hw
  | exhaust _ hpoll _ w hw =>
    obtain ⟨p, -, hu⟩ := h.unended_of_polling hpoll
    exact raiseError_sound (h.pollError_fits hpoll w) h.r47.bitcntBound hu.pinop h.paramsOk hw
  | pinError _ hp hop _ w hw =>
    have hu := h.unended hp (ne_complete_of_advances (advances_of_phasePinOp hop))
    exact raiseError_sound trivial h.r47.bitcntBound hu.pinop h.paramsOk hw
  | checkPass _ hp hsum =>
    have hu := h.unended hp nofun
    have hw := h.noWait hp rfl
    exact Unended.sound (p := .decode) ⟨hu.valid, hu.err, hu.pinop, hu.bits, rfl, hsum⟩ rfl nofun
      h.paramsOk hw
  | checkFail _ hp hsum =>
    have hu := h.unended hp nofun
    have hw := h.noWait hp rfl
    exact raiseError_sound ⟨rfl, hsum⟩ h.r47.bitcntBound hu.pinop h.paramsOk hw
  | decodePass _ hp hh =>
    have hu := h.unended hp nofun
    have hw := h.noWait hp rfl
    exact succeed_sound (s := afterTurn s) ⟨hu.valid, hu.err, hu.pinop, hu.bits, hu.cksum⟩ hh _ h.paramsOk hw
  | decodeFail _ hp hh =>
    have hu := h.unended hp nofun
    have hw := h.noWait hp rfl
    exact raiseError_sound ⟨hu.cksum.1, hu.cksum.2, hh⟩ h.r47.bitcntBound hu.pinop h.paramsOk hw

end Sys2Proof.Machine
end

section
/-! SUPPORT. Why every step keeps what the result registers mean (R33 to R36, R180, R187, R190, R217). -/

namespace Sys2Proof.Machine

section Results

variable {s t : State}

/-- The fields that `ResultMeans` looks at. -/
def resultFields (s : State) :
    (BitVec 40 × BitVec 1 × Byte × Byte × BitVec 1) × (BitVec 1 × Word × Word) ×
      (BitVec 3 × Word × BitVec 6) :=
  ((s.frame, s.lvar, s.cksumReceived, s.cksumCalc, s.ckv), (s.valid, s.humidity, s.temperature),
    (s.err, s.pinerr, s.bitcnt))

/-- States that agree on those fields mean the same. -/
theorem ResultMeans.of_resultFields (h : ResultMeans s) (e : resultFields t = resultFields s) :
    ResultMeans t := by
  obtain ⟨a, b, c, d, f, g⟩ := h
  cases s
  cases t
  simp only [resultFields, Prod.mk.injEq] at e
  obtain ⟨⟨rfl, rfl, rfl, rfl, rfl⟩, ⟨rfl, rfl, rfl⟩, rfl, rfl, rfl⟩ := e
  exact ⟨a, b, c, d, f, g⟩

/-- The result registers of a read that has not ended, beside CKSUM. -/
structure NoResult (s : State) : Prop where
  valid : s.valid = 0
  err : s.err = 0
  humidity : s.humidity = 0
  temperature : s.temperature = 0
  pinerr : s.pinerr = 0

theorem ResultMeans.noResult (h : ResultMeans s) {p : Phase} (hu : Unended p s) : NoResult s where
  valid := hu.valid
  err := hu.err
  humidity := (h.noReading hu.valid).1
  temperature := (h.noReading hu.valid).2
  pinerr := by
    by_contra hne
    have he := h.payload hne
    simp [hu.err] at he

/-- While a read has not ended, only CKSUM means anything. -/
theorem NoResult.resultMeans (h : NoResult s)
    (hchecked : s.ckv = 1 → s.cksumReceived = frameByte s.frame 4 ∧ s.cksumCalc = checksum s.frame)
    (hunchecked : s.ckv = 0 → s.cksumReceived = 0 ∧ s.cksumCalc = 0) : ResultMeans s where
  cksum := ⟨hchecked, hunchecked⟩
  reading hv := by simp [h.valid] at hv
  noReading _ := ⟨h.humidity, h.temperature⟩
  invalidData he := by simp [h.err] at he
  payload hne := absurd h.pinerr hne
  errBits := ⟨fun he => by simp [h.err] at he, fun he => by simp [h.err] at he⟩

theorem withCksum_resultMeans (h : NoResult s) : ResultMeans (withCksum s) :=
  NoResult.resultMeans ⟨h.valid, h.err, h.humidity, h.temperature, h.pinerr⟩ (fun _ => ⟨rfl, rfl⟩) nofun

theorem raiseError_resultMeans {e : ErrKind} (h : ResultMeans s) (hn : NoResult s) (hfit : ErrorFits s e) :
    ResultMeans (raiseError e s) where
  cksum := by simpa using h.cksum
  reading hv := by simp at hv
  noReading _ := by simpa using ⟨hn.humidity, hn.temperature⟩
  invalidData he := by
    rw [raiseError_err] at he
    cases e
    case invalidData => exact hfit
    all_goals cases he
  payload hne := by
    cases e
    case pinError => rfl
    all_goals exact absurd hn.pinerr hne
  errBits := by
    constructor <;> intro he <;> rw [raiseError_err] at he <;> cases e
    case left.notPresent | right.timeout => exact hfit
    all_goals cases he

theorem succeed_resultMeans (h : ResultMeans s) (hn : NoResult s) :
    ResultMeans (succeed (decodeFrame s.lvar s.frame).1 (decodeFrame s.lvar s.frame).2 s) where
  cksum := h.cksum
  reading _ := rfl
  noReading hv := by simp at hv
  invalidData he := by simp [hn.err] at he
  payload hne := absurd hn.pinerr hne
  errBits := ⟨fun he => by simp [hn.err] at he, fun he => by simp [hn.err] at he⟩

theorem phaseDone_resultMeans {p : Phase} (h : ResultMeans s) (hu : Unended p s) (ha : advances p = true) :
    ResultMeans (phaseDone p s) := by
  obtain ⟨hvalid, herr, hhum, htemp, hpinerr⟩ := h.noResult hu
  have hckv : s.ckv = 0 := hu.ckv ha
  have hn : NoResult (phaseDone p s) := by constructor <;> simpa
  exact hn.resultMeans (fun hc => by simp [hckv] at hc) fun _ => by simpa using h.cksum.2 hckv

theorem started_resultMeans (s : State) : ResultMeans (started s) :=
  NoResult.resultMeans ⟨rfl, rfl, rfl, rfl, rfl⟩ nofun fun _ => ⟨rfl, rfl⟩

theorem resetBlock_resultMeans (s : State) : ResultMeans (resetBlock s) :=
  NoResult.resultMeans ⟨rfl, rfl, rfl, rfl, rfl⟩ nofun fun _ => ⟨rfl, rfl⟩

end Results

/-- Settles O48, by the outcomes of a step. -/
theorem resultRegistersMeanWhatTheySay : Obligations.ResultRegistersMeanWhatTheySay := by
  intro s t h hm hs
  have hmeans (w : State) : ResultMeans (withWaits s w) := hm.of_resultFields rfl
  have hnone {p : Phase} (hu : Unended p s) (w : State) : NoResult (withWaits s w) :=
    (hmeans w).noResult (hu.withWaits w)
  cases h.stepEffect hs with
  | stay w => exact hmeans w
  | start => exact started_resultMeans _
  | config => exact hm.of_resultFields rfl
  | reset => exact resetBlock_resultMeans _
  | advance _ hp ha w =>
    have hu := h.unended hp (ne_complete_of_advances ha)
    exact phaseDone_resultMeans (hmeans w) (hu.withWaits w) ha
  | exhaust _ hpoll _ w =>
    obtain ⟨p, -, hu⟩ := h.unended_of_polling hpoll
    exact raiseError_resultMeans (hmeans w) (hnone hu w) (h.pollError_fits hpoll w)
  | pinError _ hp hop _ w =>
    have hu := h.unended hp (ne_complete_of_advances (advances_of_phasePinOp hop))
    exact raiseError_resultMeans (hmeans w) (hnone hu w) trivial
  | checkPass _ hp =>
    have hn := hnone (h.unended hp nofun) (afterTurn s)
    exact (withCksum_resultMeans hn).of_resultFields rfl
  | checkFail _ hp hsum =>
    have hn := hnone (h.unended hp nofun) (afterTurn s)
    exact raiseError_resultMeans (withCksum_resultMeans hn)
      ⟨hn.valid, hn.err, hn.humidity, hn.temperature, hn.pinerr⟩ ⟨rfl, hsum⟩
  | decodePass _ hp =>
    exact succeed_resultMeans (hmeans (afterTurn s)) (hnone (h.unended hp nofun) (afterTurn s))
  | decodeFail _ hp hh =>
    have hu := h.unended hp nofun
    exact raiseError_resultMeans (hmeans (afterTurn s)) (hnone hu (afterTurn s))
      ⟨hu.cksum.1, hu.cksum.2, hh⟩

end Sys2Proof.Machine
end

section
/-! SUPPORT. What a step leaves alone, register by register: that it stops nowhere, how it moves the phase,
and who writes the line, the variants, the configuration and the Reading (R22 to R24, R28, R34, R35, R38). -/

namespace Sys2Proof.Machine

section Writers

variable {s t : State}

/-! ### The line -/

/-- `LineTold` looks at the phase and the line command. -/
theorem LineTold.of_fields (h : LineTold s) (e : (t.phase, t.lineCmd) = (s.phase, s.lineCmd)) :
    LineTold t := by
  obtain ⟨hlow, hhigh⟩ := h
  cases s
  cases t
  simp only [Prod.mk.injEq] at e
  obtain ⟨rfl, rfl⟩ := e
  exact ⟨hlow, hhigh⟩

/-- What the line was last told on the way into a phase, where R38 fixes it. -/
def phaseLine : Phase → LineCmd → Prop
  | .idle, _ | .wakeLow, _ | .complete, _ => True
  | .wakeHold, c | .wakeRelease, c => c = .low
  | _, c => c = .high

theorem lineTold_iff {p : Phase} (hp : s.at p) : LineTold s ↔ phaseLine p s.lineCmd := by
  constructor
  · rintro ⟨hlow, hhigh⟩
    cases p
    case idle | wakeLow | complete => trivial
    case wakeHold => exact hlow (.inl hp)
    case wakeRelease => exact hlow (.inr hp)
    all_goals exact hhigh (hp ▸ by decide) (hp ▸ by decide)
  · intro h
    refine ⟨fun hq => ?_, fun hge hle => ?_⟩
    · obtain hq | hq := hq <;>
        (cases phaseCode_injective (hp.symm.trans hq); exact h)
    · rw [hp] at hge hle
      cases p
      case idle | wakeLow | wakeHold | wakeRelease => exact absurd hge (by decide)
      case complete => exact absurd hle (by decide)
      all_goals exact h

/-- Only the ends of WAKE_LOW and WAKE_RELEASE command the line (R38). -/
theorem phaseDone_lineCmd {p : Phase} (hlow : p ≠ .wakeLow) (hhigh : p ≠ .wakeRelease) :
    (phaseDone p s).lineCmd = s.lineCmd := by
  cases p
  case wakeLow => exact absurd rfl hlow
  case wakeRelease => exact absurd rfl hhigh
  all_goals rfl

theorem phaseDone_lineTold {p : Phase} (hp : s.at p) (ha : advances p = true) (h : LineTold s) :
    LineTold (phaseDone p s) := by
  have hline : phaseLine p s.lineCmd := (lineTold_iff hp).mp h
  refine (lineTold_iff (phaseDone_at ha)).mpr ?_
  cases p
  case wakeLow | wakeRelease => rfl
  case bitHigh =>
    rw [successor]
    split <;> exact hline
  case idle | check | decode | complete => cases ha
  all_goals exact hline

theorem raiseError_lineTold (e : ErrKind) (s : State) : LineTold (raiseError e s) :=
  (lineTold_iff (raiseError_phase s e)).mpr trivial

/-! ### The phase -/

/-- The moves of R22's table from one phase before CHECK to the next. -/
theorem phaseDone_moves {p : Phase} (hp : s.at p) (ha : advances p = true) (hu : Unended p s) :
    (s.phase.toNat, (phaseDone p s).phase.toNat) ∈
        [(1, 2), (2, 3), (3, 4), (4, 5), (5, 6), (6, 7), (7, 8), (9, 10)] ∨
      (s.phase = 8 ∧ (phaseDone p s).phase = 7 ∧ (phaseDone p s).bitcnt.toNat < 40) ∨
      (s.phase = 8 ∧ (phaseDone p s).phase = 9 ∧ (phaseDone p s).bitcnt = 40) := by
  have hbits := phaseDone_bits ha hu.bits
  rw [phaseDone_at ha, hp]
  cases p
  case bitHigh =>
    by_cases hlast : (phaseDone .bitHigh s).bitcnt = 40
    · exact .inr (.inr ⟨rfl, by rw [hlast]; rfl, hlast⟩)
    · rw [successor, if_neg hlast] at *
      exact .inr (.inl ⟨rfl, rfl, hbits⟩)
  case idle | check | decode | complete => cases ha
  all_goals exact .inl (by simp only [successor]; decide)

/-- A phase that issues a transaction is one of those that R22's table lets end with an error. -/
theorem issuingPhase_fails {p : Phase} {op : PinOp} (hop : phasePinOp p = some op) :
    (phaseCode p).toNat ∈ [1, 3, 5, 6, 7, 8, 9, 10] := by
  cases p <;> cases hop <;> decide

theorem raiseError_ends (e : ErrKind) (u : State) :
    (raiseError e u).phase = 11 ∧ (raiseError e u).err ≠ 0 :=
  ⟨raiseError_phase u e, raiseError_err u e ▸ (errCode_legal e).1⟩

/-! ### The Reading -/

theorem raiseError_keeps_reading (e : ErrKind) {u : State} (hv : u.valid = 0) :
    (raiseError e u).valid = u.valid ∧ (raiseError e u).humidity = u.humidity ∧
      (raiseError e u).temperature = u.temperature := by
  simp [hv]

/-- What a step does to VALID, HUMIDITY and TEMPERATURE: nothing, or a reset, a START or a successful
DECODE gives them its values. -/
theorem Sound.step_reading (h : Sound s) (hs : step s = .next t) :
    (t.valid = s.valid ∧ t.humidity = s.humidity ∧ t.temperature = s.temperature) ∨
    ((∃ ts, s.turns = .reset :: ts) ∧ t.valid = 0 ∧ t.humidity = 0 ∧ t.temperature = 0) ∨
    ((∃ w ts d, s.turns = .host w :: ts ∧ decodeHbus w = .wrCtrlStart d) ∧ busy s = false ∧
      t.valid = 0 ∧ t.humidity = 0 ∧ t.temperature = 0) ∨
    (controllerTurn s ∧ s.phase = 10 ∧ humidityInRange (decodeFrame s.lvar s.frame).1 = true ∧
      t.valid = 1 ∧ (t.humidity, t.temperature) = decodeFrame s.lvar s.frame) := by
  cases h.stepEffect hs with
  | stay | config | checkPass => exact .inl ⟨rfl, rfl, rfl⟩
  | start ht hd hb => exact .inr (.inr (.inl ⟨⟨_, _, _, ht, hd⟩, hb, rfl, rfl, rfl⟩))
  | reset ht => exact .inr (.inl ⟨⟨_, ht⟩, rfl, rfl, rfl⟩)
  | advance => exact .inl ⟨phaseDone_valid .., phaseDone_humidity .., phaseDone_temperature ..⟩
  | exhaust _ hpoll =>
    obtain ⟨p, -, hu⟩ := h.unended_of_polling hpoll
    exact .inl (raiseError_keeps_reading _ hu.valid)
  | pinError _ hp hop =>
    have hu := h.unended hp (ne_complete_of_advances (advances_of_phasePinOp hop))
    exact .inl (raiseError_keeps_reading _ hu.valid)
  | checkFail _ hp => exact .inl (raiseError_keeps_reading _ (h.unended hp nofun).valid)
  | decodePass hc hp hh => exact .inr (.inr (.inr ⟨hc, hp, hh, rfl, rfl⟩))
  | decodeFail _ hp => exact .inl (raiseError_keeps_reading _ (h.unended hp nofun).valid)

end Writers

/-- Settles O50, by the outcomes of a step. -/
theorem lineCommandFollowsThePhase : Obligations.LineCommandFollowsThePhase := by
  intro s t h hl hs
  cases h.stepEffect hs with
  | stay => exact hl.of_fields rfl
  | start => exact (lineTold_iff (p := .wakeLow) rfl).mpr trivial
  | config => exact hl.of_fields rfl
  | reset => exact (lineTold_iff (p := .idle) rfl).mpr trivial
  | advance _ hp ha w => exact phaseDone_lineTold (s := withWaits s w) hp ha (hl.of_fields rfl)
  | exhaust => exact raiseError_lineTold ..
  | pinError => exact raiseError_lineTold ..
  | checkPass _ hp => exact (lineTold_iff (p := .decode) rfl).mpr ((lineTold_iff hp).mp hl)
  | checkFail => exact raiseError_lineTold ..
  | decodePass => exact (lineTold_iff (p := .complete) rfl).mpr trivial
  | decodeFail => exact raiseError_lineTold ..

/-- Settles O5, turn by turn: each runs an operation, and none stops. -/
theorem soundStatesNeverStop : Obligations.SoundStatesNeverStop := by
  intro s h
  obtain ⟨r, ts, ht⟩ | ⟨ts, ht⟩ | hc := turn_cases s
  · exact step_host h.paramsOk ht ▸ exec_next _ _
  · exact ⟨_, step_reset h.paramsOk ht⟩
  · obtain ⟨p, hp⟩ := h.phase_eq
    exact h.step_controller hc hp ▸ exec_next _ _

/-- Settles O43, by the outcomes of a step. -/
theorem phasesFollowTheSuccessorTable : Obligations.PhasesFollowTheSuccessorTable := by
  intro s t h hs
  cases h.stepEffect hs with
  | stay | config => exact .inl rfl
  | start ht hd hb =>
    exact .inr (.inr (.inl ⟨⟨_, _, _, ht, hd⟩, not_busy_iff.mp hb, rfl⟩))
  | reset ht => exact .inr (.inl ⟨⟨_, ht⟩, rfl⟩)
  | advance hc hp ha w =>
    have hu := (h.unended hp (ne_complete_of_advances ha)).withWaits w
    obtain hm | hm | hm := phaseDone_moves (s := withWaits s w) hp ha hu
    · exact .inr (.inr (.inr ⟨hc, .inl hm⟩))
    · exact .inr (.inr (.inr ⟨hc, .inr (.inl hm)⟩))
    · exact .inr (.inr (.inr ⟨hc, .inr (.inr (.inl hm))⟩))
  | checkPass hc hp => exact .inr (.inr (.inr ⟨hc, .inl (by simp [hp, phaseCode])⟩))
  | decodePass hc hp =>
    have hu := h.unended hp nofun
    exact .inr (.inr (.inr ⟨hc, .inr (.inr (.inr (.inl ⟨hp, rfl, hu.err, rfl⟩)))⟩))
  | exhaust hc hpoll =>
    refine .inr (.inr (.inr ⟨hc, .inr (.inr (.inr (.inr ⟨?_, raiseError_ends ..⟩)))⟩))
    obtain hp | hp | hp | hp := hpoll <;> exact hp ▸ by decide
  | pinError hc hp hop =>
    have hfails := hp ▸ issuingPhase_fails hop
    exact .inr (.inr (.inr ⟨hc, .inr (.inr (.inr (.inr ⟨hfails, raiseError_ends ..⟩)))⟩))
  | checkFail hc hp =>
    exact .inr (.inr (.inr ⟨hc, .inr (.inr (.inr (.inr ⟨hp ▸ by decide, raiseError_ends ..⟩)))⟩))
  | decodeFail hc hp =>
    exact .inr (.inr (.inr ⟨hc, .inr (.inr (.inr (.inr ⟨hp ▸ by decide, raiseError_ends ..⟩)))⟩))

/-- Settles O44, by the outcomes of a step. -/
theorem hostRegistersHaveOneWriter : Obligations.HostRegistersHaveOneWriter := by
  intro s t h hs
  cases h.stepEffect hs with
  | stay | checkPass | decodePass => exact ⟨rfl, absurd rfl, absurd rfl, absurd rfl⟩
  | start ht hd hb => exact ⟨rfl, fun _ => .inr ⟨⟨_, _, _, ht, hd⟩, hb, rfl⟩, absurd rfl, absurd rfl⟩
  | config ht hd hb => exact ⟨rfl, absurd rfl, fun _ => .inr ⟨⟨_, _, _, ht, hd⟩, hb⟩, absurd rfl⟩
  | reset ht => exact ⟨rfl, fun _ => .inl ⟨_, ht⟩, fun _ => .inl ⟨_, ht⟩, fun _ => .inl ⟨⟨_, ht⟩, rfl⟩⟩
  | @advance p hc hp _ w =>
    refine ⟨phaseDone_params .., absurd (phaseDone_lvar ..), absurd (phaseDone_variant ..), fun hne => ?_⟩
    by_cases hlow : p = .wakeLow
    · subst hlow
      exact .inr ⟨hc, .inl ⟨hp, rfl⟩⟩
    · by_cases hhigh : p = .wakeRelease
      · subst hhigh
        exact .inr ⟨hc, .inr ⟨hp, rfl⟩⟩
      · exact absurd (phaseDone_lineCmd hlow hhigh) hne
  | exhaust | pinError | checkFail | decodeFail =>
    exact ⟨raiseError_params .., absurd (raiseError_lvar ..), absurd (raiseError_variant ..),
      absurd (raiseError_lineCmd ..)⟩

/-- Settles O45, by what a step does to the three registers of a Reading. -/
theorem readingsComeOnlyFromDecode : Obligations.ReadingsComeOnlyFromDecode := by
  intro s t h hs
  obtain ⟨hv, hh, ht⟩ | hreset | hstart | hdecode := h.step_reading hs
  · exact ⟨fun h1 h0 => by simp [hv, h0] at h1, absurd hh, absurd ht, by simp [hv, hh, ht]⟩
  · obtain ⟨-, hv, hh, ht⟩ := id hreset
    exact ⟨fun h1 => by simp [hv] at h1, fun _ hne => absurd hh hne, fun _ hne => absurd ht hne,
      fun _ => .inl hreset⟩
  · obtain ⟨-, -, hv, hh, ht⟩ := id hstart
    exact ⟨fun h1 => by simp [hv] at h1, fun _ hne => absurd hh hne, fun _ hne => absurd ht hne,
      fun _ => .inr (.inl hstart)⟩
  · obtain ⟨hc, hp, hrange, hv, hr⟩ := id hdecode
    exact ⟨fun _ _ => ⟨hc, hp, hrange, hr⟩, fun _ _ => ⟨hv, hp⟩, fun _ _ => ⟨hv, hp⟩,
      fun _ => .inr (.inr hdecode)⟩

end Sys2Proof.Machine
end

section
/-! SUPPORT. Late answers and late ticks: a wait keeps everything but itself, and the step that ends it does
what a prompt one does (R39, R40, R75, R141, R250). -/

namespace Sys2Proof.Machine

section Waits

variable {s : State}

theorem pollStep_failed {level : PulseLevel} {n : Nat} {e : ErrKind} {success : State → State}
    (ha : s.awaitTick = false) (hr : nextReply s = .ok false) :
    pollStep level n e success s = failedSample n e (answered s) := by
  rw [pollStep_of_not_awaitTick ha, pinTx_ok _ _ hr]
  rfl

theorem failedSample_early {n : Nat} {e : ErrKind} (ht : nextTick s = false) :
    failedSample n e s = { ticked s with awaitTick := true } :=
  onTick_false _ _ ht

theorem failedSample_onTime {n : Nat} {e : ErrKind} (ht : nextTick s = true) :
    failedSample n e s = countFailed n e (ticked s) :=
  onTick_true _ _ ht

theorem phasePinOp_of_phaseOp {p : Phase} (hp : s.at p) (hop : phaseOp s.phase ≠ 0) :
    ∃ op, phasePinOp p = some op := by
  rw [hp, phaseOp_phaseCode] at hop
  exact Option.ne_none_iff_exists'.mp fun hnone => hop (by rw [hnone]; rfl)

section Steps

variable (h : Sound s) (hturns : s.turns = []) {p : Phase} (hp : s.at p)
include h hturns hp

theorem Sound.step_phaseInstr : step s = exec (phaseInstr p) s := by
  rw [h.step_controller (.inl hturns) hp, afterTurn_nil hturns]

theorem Sound.step_issuingPhase {op : PinOp} (hop : phasePinOp p = some op) (ha : s.awaitTick = false) :
    step s = .next (pinTx op (phaseAnswered s.params p) s) :=
  (h.step_phaseInstr hturns hp).trans (exec_issuingPhase hop hp ha)

theorem Sound.step_poll (hpoll : polling s) :
    step s = .next (pollStep (pollLevel p) (pollBudget s) (pollError s) (pollDone p) s) :=
  (h.step_phaseInstr hturns hp).trans (exec_poll hp hpoll)

end Steps

/-- One turn without an answer, then the answer. -/
theorem Sound.late_answer {r : PinReply} {rest : List PinReply} (h : Sound s) (hturns : s.turns = [])
    (ha : s.awaitTick = false) (hop : phaseOp s.phase ≠ 0) (hline : s.line = .silent :: r :: rest) :
    runFor 2 s = runFor 1 { s with line := r :: rest, lineDraws := s.lineDraws + 1 } := by
  obtain ⟨p, hp⟩ := h.phase_eq
  obtain ⟨op, hop⟩ := phasePinOp_of_phaseOp hp hop
  have hprompt : Sound { s with line := r :: rest, lineDraws := s.lineDraws + 1 } := h.of_soundFields rfl
  have hwait : step s =
      .next { s with line := r :: rest, lineDraws := s.lineDraws + 1, port := pinCode op } := by
    rw [h.step_issuingPhase hturns hp hop ha, pinTx_silent _ _ (nextReply_cons hline)]
    simp [takeReply, hline]
  have hlate := everyStepKeepsTheInvariantsOfR47 _ _ h hwait
  rw [runFor_succ hwait, runFor_succ (hlate.step_issuingPhase hturns hp hop ha),
    runFor_succ (hprompt.step_issuingPhase hturns hp hop ha)]
  rfl

/-- One turn of a delay without its tick, then the tick. -/
theorem Sound.late_delay_tick {rest : List Bool} (h : Sound s) (hturns : s.turns = [])
    (hdelay : s.at .wakeHold ∨ s.at .wakeSettle) (hticks : s.ticks = false :: true :: rest) :
    runFor 2 s = runFor 1 { s with ticks := true :: rest, tickDraws := s.tickDraws + 1 } := by
  have hwait : step s = .next (ticked s) := by
    obtain hp | hp := hdelay <;> rw [h.step_phaseInstr hturns hp] <;>
      exact congrArg Host.Outcome.next (onTick_false _ _ (nextTick_cons hticks))
  rw [runFor_succ hwait]
  simp [ticked, hticks]

/-- One turn of a poll whose failed sample finds no tick, then the tick. -/
theorem Sound.late_sample_tick {rest : List Bool} (h : Sound s) (hturns : s.turns = [])
    (ha : s.awaitTick = false) (hpoll : polling s) (hr : nextReply s = .ok false)
    (hticks : s.ticks = false :: true :: rest) :
    runFor 2 s = runFor 1 { s with ticks := true :: rest, tickDraws := s.tickDraws + 1 } := by
  obtain ⟨p, hp⟩ := h.phase_eq
  have hprompt : Sound { s with ticks := true :: rest, tickDraws := s.tickDraws + 1 } := h.of_soundFields rfl
  have hwait : step s = .next { ticked (answered s) with awaitTick := true } := by
    rw [h.step_poll hturns hp hpoll, pollStep_failed ha hr,
      failedSample_early (s := answered s) (nextTick_cons hticks)]
  have hlate := everyStepKeepsTheInvariantsOfR47 _ _ h hwait
  have htick : nextTick { ticked (answered s) with awaitTick := true } = true :=
    nextTick_cons (rest := rest) (by simp [ticked, answered, hticks])
  rw [runFor_succ hwait, runFor_succ (hlate.step_poll hturns hp hpoll),
    runFor_succ (hprompt.step_poll hturns hp hpoll), pollStep_waiting rfl, failedSample_onTime htick,
    pollStep_failed (s := { s with ticks := true :: rest, tickDraws := s.tickDraws + 1 }) ha hr,
    failedSample_onTime rfl]
  simp [countFailed, ticked, answered, hticks, pollBudget, pollError]

end Waits

/-- Settles O32, by the late answer, the late tick of a delay and the late tick of a sample. -/
theorem lateAnswersActAsPromptOnes : Obligations.LateAnswersActAsPromptOnes := by
  refine ⟨fun s r rest h hturns _ ha hop hline => h.late_answer hturns ha hop hline, ?_⟩
  rintro s rest h hturns - ha (hp | hp | ⟨hpoll, hr⟩) hticks
  · exact h.late_delay_tick hturns (.inl hp) hticks
  · exact h.late_delay_tick hturns (.inr hp) hticks
  · exact h.late_sample_tick hturns ha hpoll hr hticks

end Sys2Proof.Machine
end

section
/-! SUPPORT. Reset, and the rules of single operations: what a step runs, what a transaction does from the
port, and what waiting leaves (R21, R39, R40, R44, R86, R141, R240). -/

namespace Sys2Proof.Machine

section Rules

variable {s : State}

/-! ### Transactions by their answer -/

theorem classify_eq (q : Params) (e : BitVec 16) : classify q e = if q.tThresh < e.toNat then 1 else 0 := by
  by_cases h : q.tThresh < e.toNat <;> simp [classify, h]

theorem bitHighDone_eq_bitHighSuccess : bitHighDone = bitHighSuccess := by
  funext s
  simp only [bitHighDone, bitHighSuccess, classify_eq]
  rfl

/-- A step that issues a set transaction, from what it does with its `Ok`. -/
theorem setStepMeans_of_exec {i : Instr} {when : State → Prop} {op : PinOp} {success : State → State}
    {k : State → Bool → State → State} (hexec : ∀ s, when s → exec i s = .next (pinTx op (k s) s))
    (hk : ∀ s b, when s → k s b (answered s) = success (answered s)) :
    SetStepMeans i when (pinCode op) success := by
  intro s hs
  rw [hexec s hs]
  refine ⟨fun b hb => ?_, fun p hp => ?_⟩
  · rw [pinTx_ok _ _ hb]
    exact congrArg Host.Outcome.next (hk s b hs)
  · rw [pinTx_err _ _ hp]
    rfl

/-- One sample of a poll (R141), for any step that takes it. -/
theorem pollStepMeans_of_exec {i : Instr} {when : State → Prop} {op : PinOp} {budget : Params → Nat}
    {e : ErrKind} {code : BitVec 3} {success : State → State}
    (hexec : ∀ s, when s →
      exec i s = .next (pinTx op (sampled (s.params.samples (budget s.params)) e success) s))
    (hcode : ∀ s, raiseError e s = errored code s) :
    PollStepMeans i when (pinCode op) budget code success := by
  intro s hs
  rw [hexec s hs]
  have hfalse (hr : nextReply s = .ok false) (ht : nextTick s = true) :
      pinTx op (sampled (s.params.samples (budget s.params)) e success) s =
        countFailed (s.params.samples (budget s.params)) e (ticked (answered s)) :=
    (pinTx_ok _ _ hr).trans (failedSample_onTime (s := answered s) ht)
  refine ⟨fun hr => congrArg _ (pinTx_ok _ _ hr), fun hr ht hn => ?_, fun hr ht hn => ?_,
    fun p hr => congrArg _ (pinTx_err _ _ hr)⟩
  · rw [hfalse hr ht]
    exact congrArg _ (countFailed_more (s := ticked (answered s)) e hn)
  · rw [hfalse hr ht]
    exact congrArg _ ((countFailed_last (s := ticked (answered s)) e hn).trans (hcode _))

theorem pollStep_silent {level : PulseLevel} {n : Nat} {e : ErrKind} {success : State → State}
    (ha : s.awaitTick = false) (hr : nextReply s = .silent) :
    pollStep level n e success s = { answered s with port := pinCode (sampleOp level) } :=
  (pollStep_of_not_awaitTick ha).trans (pinTx_silent _ _ hr)

theorem pollStep_noTick {level : PulseLevel} {n : Nat} {e : ErrKind} {success : State → State}
    (ht : nextTick s = false) :
    (s.awaitTick = true → pollStep level n e success s = ticked s) ∧
    (s.awaitTick = false → nextReply s = .ok false →
      pollStep level n e success s = { ticked (answered s) with awaitTick := true }) := by
  refine ⟨fun ha => ?_, fun ha hr => ?_⟩
  · rw [pollStep_waiting ha, failedSample_early ht, ← ha]
    rfl
  · exact (pollStep_failed ha hr).trans (failedSample_early (s := answered s) ht)

theorem pollStep_lateTick {level : PulseLevel} {n : Nat} {e : ErrKind} {success : State → State}
    (ht : nextTick s = true) (ha : s.awaitTick = true) :
    pollStep level n e success s = countFailed n e (ticked s) :=
  (pollStep_waiting ha).trans (failedSample_onTime ht)

/-! ### Reset -/

theorem atResetValues_resetBlock (s : State) : AtResetValues (resetBlock s) where
  control := ⟨rfl, rfl, rfl⟩
  status := ⟨rfl, rfl, rfl, rfl, rfl, rfl⟩
  frame := rfl
  cksum := ⟨rfl, rfl, rfl⟩
  results := ⟨rfl, rfl, rfl⟩
  counters := ⟨rfl, rfl⟩
  line := rfl

end Rules

/-- Settles O1, by the values that a reset writes. -/
theorem resetLeavesTheResetValues : Obligations.ResetLeavesTheResetValues :=
  ⟨atResetValues_resetBlock State.reset,
    fun _ _ hok ht => ⟨_, step_reset hok ht, atResetValues_resetBlock _⟩⟩

/-- Settles O2: the reset state is one that a reset leaves. -/
theorem resetMeetsTheInvariants : Obligations.ResetMeetsTheInvariants := by
  have hframe : PartialFrame State.reset := fun _ _ _ => BitVec.getLsbD_zero
  have hslots : ∀ idx, readSlot State.reset idx = 0 := by decide
  exact ⟨resetBlock_sound (s := State.reset) (by decide), withinBudget_of_not_usesCount (p := .idle) rfl rfl,
    resetBlock_resultMeans State.reset, hframe, (lineTold_iff (p := .idle) rfl).mpr trivial, hslots⟩

/-- Settles O3, by what a step runs on each turn. -/
theorem stepRunsTheDecodedInstruction : Obligations.StepRunsTheDecodedInstruction := by
  intro s hok
  have htail {x : Turn} {ts : List Turn} (ht : s.turns = x :: ts) : afterTurn s = { s with turns := ts } := by
    simp [afterTurn, ht]
  refine ⟨fun w ts ht => htail ht ▸ step_host hok ht, fun i hi => ?_⟩
  have hrun (hc : controllerTurn s) : step s = exec i (afterTurn s) := by
    obtain ⟨hport, hi⟩ | ⟨hport, hi⟩ := hi
    · exact step_phase hok hc hport hi
    · exact step_port hok hc hport hi
  exact ⟨fun ht => (hrun (.inl ht)).trans (by rw [afterTurn_nil ht]),
    fun ts ht => htail ht ▸ hrun (.inr ⟨ts, ht⟩)⟩

/-- Settles O30, by `exec_pinInstr` in the phases that issue the operation. -/
theorem pinTransactionsFinishTheirPhase : Obligations.PinTransactionsFinishTheirPhase := by
  refine ⟨?_, ?_, ?_, ?_, ?_, ?_, ?_, ?_, ?_, ?_⟩
  · exact setStepMeans_of_exec (fun s hs => exec_pinInstr (p := .wakeLow) (op := .setLow) rfl hs)
      fun _ _ _ => rfl
  · exact setStepMeans_of_exec (fun s hs => exec_pinInstr (p := .wakeRelease) (op := .setHigh) rfl hs)
      fun _ _ _ => rfl
  · exact pollStepMeans_of_exec (op := .isHigh) (e := .notPresent)
      (fun s hs => exec_pinInstr (p := .presHigh) rfl hs) fun _ => rfl
  · exact pollStepMeans_of_exec (op := .isHigh) (e := .timeout)
      (fun s hs => exec_pinInstr (p := .bitRise) rfl hs) fun _ => rfl
  · exact pollStepMeans_of_exec (op := .isLow) (e := .notPresent)
      (fun s hs => exec_pinInstr (p := .presLow) rfl hs) fun _ => rfl
  · rw [← bitHighDone_eq_bitHighSuccess]
    exact pollStepMeans_of_exec (op := .isLow) (e := .timeout)
      (fun s hs => exec_pinInstr (p := .bitHigh) rfl hs) fun _ => rfl
  · exact setStepMeans_of_exec (op := .setLow) (k := fun _ => setLowAnswered) (fun _ _ => rfl)
      fun _ _ hs => if_neg hs
  · exact setStepMeans_of_exec (op := .setHigh) (k := fun _ => setHighAnswered) (fun _ _ => rfl)
      fun _ _ hs => if_neg hs
  · exact setStepMeans_of_exec (op := .isHigh) (k := fun _ => isHighAnswered) (fun _ _ => rfl)
      fun _ _ hs => (if_neg hs.1).trans (if_neg hs.2)
  · exact setStepMeans_of_exec (op := .isLow) (k := fun _ => isLowAnswered) (fun _ _ => rfl)
      fun _ _ hs => (if_neg hs.1).trans (if_neg hs.2)

/-- Settles O31, by what a transaction without an answer and a wait without its tick leave. -/
theorem waitsChangeNothingButTheWait : Obligations.WaitsChangeNothingButTheWait := by
  simp only [Obligations.WaitsChangeNothingButTheWait, List.forall_mem_cons, List.not_mem_nil,
    false_imp_iff, implies_true, and_true]
  refine ⟨fun s hr => ⟨?_, fun ha => ?_⟩, fun s ht => ⟨?_, ?_, ?_⟩, fun s ht ha => ?_⟩
  · have hset (op : PinOp) (k : Bool → State → State) :
        pinTx op k s = { answered s with port := pinCode op } := pinTx_silent op k hr
    refine ⟨?_, ?_, ?_, ?_, ?_, ?_⟩ <;> exact congrArg Host.Outcome.next (hset ..)
  · refine ⟨?_, ?_, ?_, ?_⟩ <;> exact congrArg Host.Outcome.next (pollStep_silent ha hr)
  · exact congrArg Host.Outcome.next (onTick_false _ _ ht)
  · exact congrArg Host.Outcome.next (onTick_false _ _ ht)
  · refine ⟨?_, ?_, ?_, ?_⟩ <;>
      exact ⟨fun ha => congrArg Host.Outcome.next ((pollStep_noTick ht).1 ha),
        fun ha hr => congrArg Host.Outcome.next ((pollStep_noTick ht).2 ha hr)⟩
  · refine ⟨?_, ?_, ?_, ?_⟩ <;> exact congrArg Host.Outcome.next (pollStep_lateTick ht ha)

end Sys2Proof.Machine
end

section
/-! SUPPORT. The register window as the host uses it: what a request word decodes to, what a read gives, what
a write changes, and how long a result stands (R61, R66, R67, R70, R81, R94, R112, R115). -/

namespace Sys2Proof

section Fields

variable {w : BitVec 37} (we : BitVec 1) (idx : BitVec 4) (d : Word)

/-! ### The fields of a request word -/

@[simp] theorem hbusWE_hbusWord : hbusWE (hbusWord we idx d) = we := by
  ext i hi
  simp (disch := omega) [hbusWE, hbusWord, BitVec.getLsbD_of_ge, decide_eq_false]

@[simp] theorem hbusIDX_hbusWord : hbusIDX (hbusWord we idx d) = idx := by
  ext i hi
  simp (disch := omega) [hbusIDX, hbusWord, BitVec.getLsbD_of_ge, decide_eq_true]

@[simp] theorem hbusWDATA_hbusWord : hbusWDATA (hbusWord we idx d) = d := by
  ext i hi
  simp (disch := omega) [hbusWDATA, hbusWord, decide_eq_true]

theorem decodeHbus_of_read (hwe : hbusWE w = 0) : decodeHbus w = decodeRead (hbusIDX w) (hbusWDATA w) :=
  if_pos hwe

theorem decodeHbus_of_write (hwe : hbusWE w = 1) : decodeHbus w = decodeWrite (hbusIDX w) (hbusWDATA w) :=
  if_neg (by simp [hwe])

theorem decodeHbus_hbusWord_write : decodeHbus (hbusWord 1 idx d) = decodeWrite idx d := by
  rw [decodeHbus_of_write (hbusWE_hbusWord ..), hbusIDX_hbusWord, hbusWDATA_hbusWord]

end Fields

end Sys2Proof

namespace Sys2Proof.Machine

section Window

variable {s t : State} {w : BitVec 37}

/-! ### Reads and writes -/

/-- Each read row answers with its slot (R61, R111 to R130). -/
theorem exec_decodeRead_readSlot (idx : BitVec 4) (d : Word) (s : State) :
    exec (decodeRead idx d) s = .next (respond (readSlot s idx) s) := by
  unfold decodeRead readSlot
  generalize idx.toNat = n
  split
  case h_13 =>
    simp only [*]
    rfl
  all_goals rfl

theorem exec_hostRead (hwe : hbusWE w = 0) (s : State) :
    exec (decodeHbus w) s = .next (respond (readSlot s (hbusIDX w)) s) := by
  rw [decodeHbus_of_read hwe, exec_decodeRead_readSlot]

/-- While BUSY the two writes that act are dropped (R66, R112, R115). -/
theorem exec_hostWrite_busy (hwe : hbusWE w = 1) (hb : busy s = true) :
    exec (decodeHbus w) s = .next s := by
  rw [decodeHbus_of_write hwe]
  obtain ⟨-, h⟩ | ⟨-, hidle, -⟩ | h := exec_decodeWrite (hbusIDX w) (hbusWDATA w) s
  · rw [h, startRead_busy s hb]
  · simp [hb] at hidle
  · exact h

theorem afterTurn_cons {x : Turn} {ts : List Turn} (ht : s.turns = x :: ts) :
    afterTurn s = { s with turns := ts } := by
  rw [afterTurn, ht, List.tail_cons]

/-- `wr CONFIG, v` while not BUSY (R94, R115). -/
theorem step_wrConfig {v : Word} {ts : List Turn} (hok : s.params.ok = true) (hb : busy s = false)
    (ht : s.turns = .host (wrWord .config v) :: ts) :
    step s = .next { s with turns := ts, variant := wdataBit0 v } := by
  have hdecode : decodeHbus (wrWord .config v) = .wrConfig v := decodeHbus_hbusWord_write ..
  rw [step_host hok ht, hdecode, afterTurn_cons ht]
  exact congrArg Host.Outcome.next (if_neg (ne_true_of_eq_false hb))

/-- `start` while not BUSY (R94, R95, R112). -/
theorem step_start {ts : List Turn} (hok : s.params.ok = true) (hb : busy s = false)
    (ht : s.turns = .host (wrWord .ctrl 1) :: ts) : step s = .next (started { s with turns := ts }) := by
  have hdecode : decodeHbus (wrWord .ctrl 1) = .wrCtrlStart 1 := decodeHbus_hbusWord_write ..
  rw [step_host hok ht, hdecode, afterTurn_cons ht]
  exact congrArg Host.Outcome.next (startRead_eq_started hb)

/-! ### Results that stand -/

/-- VARIANT shows in the slot CONFIG only (R61, R114). -/
theorem readSlot_of_ne_config {idx : BitVec 4} (h : idx ≠ 1) (v : BitVec 1) (s : State) :
    readSlot { s with variant := v } idx = readSlot s idx := by
  unfold readSlot
  split
  case h_1 hidx => exact absurd (BitVec.eq_of_toNat_eq hidx) h
  all_goals rfl

theorem not_polling_of_complete (hp : s.at .complete) : ¬polling s := by
  simp [polling_iff hp]

end Window

/-- Settles O20, by what the read rows answer and what the write rows do while BUSY. -/
theorem hostAccessWhileBusyChangesOnlyRdata : Obligations.HostAccessWhileBusyChangesOnlyRdata :=
  fun s _ => ⟨fun hwe => exec_hostRead hwe s, exec_hostWrite_busy⟩

/-- Settles O22, by the outcomes of a step: of those that COMPLETE allows, only a CONFIG write, a START and a
reset change a readable register. -/
theorem resultsStayUntilTheNextStart : Obligations.ResultsStayUntilTheNextStart := by
  intro s t h hp hreset hstart hs
  have hnot {p : Phase} (hq : s.at p) (hne : p ≠ .complete) : False := not_at hq hne hp
  cases h.stepEffect hs with
  | stay => exact ⟨hp, fun _ _ => rfl, absurd rfl⟩
  | config ht hd => exact ⟨hp, fun _ hidx => readSlot_of_ne_config hidx .., fun _ => ⟨_, _, _, ht, hd⟩⟩
  | start ht hd => exact absurd hd (hstart _ _ _ ht)
  | reset ht => exact absurd ht (hreset _)
  | advance _ hq ha => exact (hnot hq (ne_complete_of_advances ha)).elim
  | exhaust _ hpoll => exact absurd hpoll (not_polling_of_complete hp)
  | pinError _ hq hop => exact (hnot hq (ne_complete_of_advances (advances_of_phasePinOp hop))).elim
  | checkPass _ hq | checkFail _ hq | decodePass _ hq | decodeFail _ hq => exact (hnot hq (by decide)).elim

/-- Settles O23, by the two writes one after the other: the first leaves the block not BUSY. -/
theorem configThenStartUsesTheNewVariant : Obligations.ConfigThenStartUsesTheNewVariant := by
  intro s v ts hok hb hturns
  have hconfig := step_wrConfig hok hb hturns
  have hstart := step_start (s := { s with turns := .host (wrWord .ctrl 1) :: ts, variant := wdataBit0 v })
    hok hb rfl
  exact ⟨_, (runFor_succ hconfig).trans (runFor_succ hstart), rfl, rfl, rfl, rfl⟩

end Sys2Proof.Machine
end

section
/-! SUPPORT. The frame assembler, bit by bit: stream bit i of the frame is its bit 39 - i, counted from the
least significant end (R32, R64, R164). -/

namespace Sys2Proof.Machine

theorem streamBit_eq_getLsbD (f : BitVec 40) {i : Nat} (hi : i < 40) :
    streamBit f i = f.getLsbD (39 - i) := by
  have hplace : 8 * (4 - i / 8) + (7 - i % 8) = 39 - i := by omega
  have hbyte : 7 - i % 8 < 8 := by omega
  rw [streamBit, frameByte, BitVec.getLsbD_extractLsb', hplace, decide_eq_true hbyte, Bool.true_and]

/-- A bit shifted inside its byte does not leave it. -/
theorem setWidth_shiftLeft_bit (b : BitVec 1) {k : Nat} (hk : k < 8) :
    (b.setWidth 8 <<< k).setWidth 40 = b.setWidth 40 <<< k := by
  ext j hj
  by_cases hbyte : j < 8
  · simp [hbyte]
  · have hout : b.getLsbD (j - k) = false := BitVec.getLsbD_of_ge _ _ (by omega)
    simp [hbyte, hout]

theorem storeFrameBit_eq_or (f : BitVec 40) {i : Nat} (hi : i < 40) (b : BitVec 1) :
    storeFrameBit f i b = f ||| b.setWidth 40 <<< (39 - i) := by
  have hplace : 7 - i % 8 + 8 * (4 - i / 8) = 39 - i := by omega
  rw [storeFrameBit, orFrameByte, if_pos (by omega), setWidth_shiftLeft_bit b (by omega),
    ← BitVec.shiftLeft_add, hplace]

/-- A single bit shifted to place n is 0 at every other place. -/
theorem getLsbD_shiftLeft_bit (b : BitVec 1) {n m : Nat} (hm : m < 40) :
    (b.setWidth 40 <<< n).getLsbD m = if m = n then b.getLsbD 0 else false := by
  obtain hlt | rfl | hgt := lt_trichotomy m n
  · simp [hlt, hlt.ne]
  · simp [hm]
  · have hout : b.getLsbD (m - n) = false := BitVec.getLsbD_of_ge _ _ (by omega)
    simp [hout, hgt.ne']

/-- Settles O29, by the place of a stream bit in the frame. -/
theorem assemblerPlacesExactlyOneBit : Obligations.AssemblerPlacesExactlyOneBit := by
  intro f b i j hi hj
  have hplace : 39 - j = 39 - i ↔ j = i := by omega
  rw [streamBit_eq_getLsbD _ hj, streamBit_eq_getLsbD _ hj, storeFrameBit_eq_or f hi, BitVec.getLsbD_or,
    getLsbD_shiftLeft_bit b (by omega)]
  by_cases h : j = i <;> simp [hplace, h]

end Sys2Proof.Machine
end

section
/-! SUPPORT. The controller does not see the host's side: no controller step looks at RDATA or at the turns to
come, and none writes them or the configuration, so a host read may come before it or after it (R66, R67). -/

namespace Sys2Proof.Machine

/-- The state with another RDATA and other turns to come. -/
def withHost (v : Word) (ts : List Turn) (s : State) : State := { s with rdata := v, turns := ts }

/-- A function of the state that neither looks at RDATA and `turns` nor writes them or the configuration. -/
structure HostBlind (f : State → State) : Prop where
  commutes : ∀ v ts s, f (withHost v ts s) = withHost v ts (f s)
  params : ∀ s, (f s).params = s.params

section Blind

variable {f g : State → State}

/-! ### How host-blind functions are built -/

theorem hostBlind_id : HostBlind id := ⟨fun _ _ _ => rfl, fun _ => rfl⟩

theorem HostBlind.comp (hf : HostBlind f) (hg : HostBlind g) : HostBlind fun s => f (g s) where
  commutes v ts s := by rw [hg.commutes, hf.commutes]
  params s := (hf.params _).trans (hg.params s)

theorem HostBlind.ite {c : State → Prop} [DecidablePred c] (hf : HostBlind f) (hg : HostBlind g)
    (hc : ∀ v ts s, c (withHost v ts s) = c s) : HostBlind fun s => if c s then f s else g s where
  commutes v ts s := by
    simp only [hc, hf.commutes, hg.commutes]
    split <;> rfl
  params s := by
    split
    · exact hf.params s
    · exact hg.params s

/-- A function that takes its constants from the configuration. -/
theorem HostBlind.of_params {f : Params → State → State} (hf : ∀ q, HostBlind (f q)) :
    HostBlind fun s => f s.params s where
  commutes v ts s := (hf s.params).commutes v ts s
  params s := (hf s.params).params s

/-! ### The shared operations -/

theorem hostBlind_raiseError (e : ErrKind) : HostBlind (raiseError e) where
  commutes _ _ _ := by cases e <;> rfl
  params s := raiseError_params s e

theorem hostBlind_pollDone (p : Phase) : HostBlind (pollDone p) where
  commutes _ _ _ := by cases p <;> rfl
  params _ := by cases p <;> rfl

theorem hostBlind_phaseDone (p : Phase) : HostBlind (phaseDone p) where
  commutes _ _ _ := by cases p <;> rfl
  params := phaseDone_params p

theorem hostBlind_pinTx (op : PinOp) {k : Bool → State → State} (hk : ∀ b, HostBlind (k b)) :
    HostBlind (pinTx op k) where
  commutes v ts s := by
    have hsame : nextReply (withHost v ts s) = nextReply s := rfl
    cases h : nextReply s with
    | ok b =>
      rw [pinTx_ok op k h, pinTx_ok op k (hsame.trans h)]
      exact (hk b).commutes v ts (answered s)
    | err p =>
      rw [pinTx_err op k h, pinTx_err op k (hsame.trans h)]
      exact (hostBlind_raiseError _).commutes v ts (answered s)
    | silent =>
      rw [pinTx_silent op k h, pinTx_silent op k (hsame.trans h)]
      rfl
  params s := by
    obtain ⟨b, -, h⟩ | ⟨p, -, h⟩ | ⟨-, h⟩ := pinTx_cases op k s <;> rw [h]
    · exact (hk b).params _
    · exact raiseError_params ..
    · rfl

theorem hostBlind_onTick {k wait : State → State} (hk : HostBlind k) (hwait : HostBlind wait) :
    HostBlind (onTick k wait) :=
  have htake : HostBlind takeTick := ⟨fun _ _ _ => rfl, fun _ => rfl⟩
  (hk.comp htake).ite (hwait.comp htake) fun _ _ _ => rfl

theorem hostBlind_failedSample (n : Nat) (e : ErrKind) : HostBlind (failedSample n e) := by
  have hcount : HostBlind fun s => { s with ecnt := s.ecnt + 1, awaitTick := false } :=
    ⟨fun _ _ _ => rfl, fun _ => rfl⟩
  have hlast : HostBlind (countFailed n e) :=
    ((hostBlind_raiseError e).comp hcount).ite hcount fun _ _ _ => rfl
  have hwait : HostBlind fun s => { s with awaitTick := true } := ⟨fun _ _ _ => rfl, fun _ => rfl⟩
  exact hostBlind_onTick hlast hwait

theorem hostBlind_sampled (n : Nat) (e : ErrKind) (hf : HostBlind f) (b : Bool) :
    HostBlind (sampled n e f b) := by
  cases b with
  | true => exact hf
  | false => exact hostBlind_failedSample n e

theorem hostBlind_pollStep (level : PulseLevel) (n : Nat) (e : ErrKind) (hf : HostBlind f) :
    HostBlind (pollStep level n e f) :=
  (hostBlind_failedSample n e).ite (hostBlind_pinTx _ (hostBlind_sampled n e hf)) fun _ _ _ => rfl

theorem hostBlind_delayStep (hf : HostBlind f) : HostBlind (delayStep f) := by
  have hcount : HostBlind fun s => { s with dcnt := s.dcnt - 1 } := ⟨fun _ _ _ => rfl, fun _ => rfl⟩
  exact hostBlind_onTick ((hf.comp hcount).ite hcount fun _ _ _ => rfl) hostBlind_id

theorem hostBlind_checkFrame : HostBlind checkFrame := by
  have hcksum : HostBlind withCksum := ⟨fun _ _ _ => rfl, fun _ => rfl⟩
  have hpass : HostBlind fun s => { withCksum s with phase := phaseCode .decode } :=
    ⟨fun _ _ _ => rfl, fun _ => rfl⟩
  exact hpass.ite ((hostBlind_raiseError _).comp hcksum) fun _ _ _ => rfl

theorem hostBlind_decodeStep : HostBlind decodeStep := by
  have hpass : HostBlind fun s =>
      succeed (decodeFrame s.lvar s.frame).1 (decodeFrame s.lvar s.frame).2 s :=
    ⟨fun _ _ _ => rfl, fun _ => rfl⟩
  exact hpass.ite (hostBlind_raiseError _) fun _ _ _ => rfl

/-! ### The controller's operations -/

/-- What a phase that issues a transaction does with the answer. -/
theorem hostBlind_phaseAnswered (p : Phase) (b : Bool) :
    HostBlind fun s => phaseAnswered s.params p b s := by
  refine HostBlind.of_params (f := fun q => phaseAnswered q p b) fun q => ?_
  cases p
  case wakeLow => exact hostBlind_phaseDone .wakeLow
  case wakeRelease => exact hostBlind_phaseDone .wakeRelease
  all_goals exact hostBlind_sampled _ _ (hostBlind_pollDone _) b

theorem hostBlind_poll (p : Phase) :
    HostBlind fun s => pollStep (pollLevel p) (phaseBudget s.params p) (phaseError p) (pollDone p) s :=
  HostBlind.of_params (f := fun q => pollStep (pollLevel p) (phaseBudget q p) (phaseError p) (pollDone p))
    fun _ => hostBlind_pollStep _ _ _ (hostBlind_pollDone p)

theorem hostBlind_phaseInstr (p : Phase) :
    ∃ f, HostBlind f ∧ ∀ s, exec (phaseInstr p) s = .next (f s) := by
  cases p
  case idle | complete => exact ⟨id, hostBlind_id, fun _ => rfl⟩
  case wakeLow => exact ⟨_, hostBlind_pinTx .setLow fun _ => hostBlind_phaseDone .wakeLow, fun _ => rfl⟩
  case wakeRelease =>
    exact ⟨_, hostBlind_pinTx .setHigh fun _ => hostBlind_phaseDone .wakeRelease, fun _ => rfl⟩
  case wakeHold => exact ⟨_, hostBlind_delayStep (hostBlind_phaseDone .wakeHold), fun _ => rfl⟩
  case wakeSettle => exact ⟨_, hostBlind_delayStep (hostBlind_phaseDone .wakeSettle), fun _ => rfl⟩
  case check => exact ⟨_, hostBlind_checkFrame, fun _ => rfl⟩
  case decode => exact ⟨_, hostBlind_decodeStep, fun _ => rfl⟩
  case presHigh => exact ⟨_, hostBlind_poll .presHigh, fun _ => rfl⟩
  case presLow => exact ⟨_, hostBlind_poll .presLow, fun _ => rfl⟩
  case bitRise => exact ⟨_, hostBlind_poll .bitRise, fun _ => rfl⟩
  case bitHigh => exact ⟨_, hostBlind_poll .bitHigh, fun _ => rfl⟩

/-- What a pin operation from the port does with the answer, by the phase that it finds (R86). -/
def pinAnswered : PinOp → Bool → State → State
  | .setLow => setLowAnswered
  | .setHigh => setHighAnswered
  | .isHigh => isHighAnswered
  | .isLow => isLowAnswered

theorem exec_pinInstr_pinAnswered (op : PinOp) (s : State) :
    exec (pinInstr op) s = .next (pinTx op (pinAnswered op) s) := by
  cases op <;> rfl

theorem hostBlind_pinAnswered (op : PinOp) (b : Bool) : HostBlind (pinAnswered op b) := by
  have hset (c : LineCmd) : HostBlind fun s => { s with lineCmd := c } := ⟨fun _ _ _ => rfl, fun _ => rfl⟩
  cases op
  case setLow => exact (hostBlind_phaseDone .wakeLow).ite (hset .low) fun _ _ _ => rfl
  case setHigh => exact (hostBlind_phaseDone .wakeRelease).ite (hset .high) fun _ _ _ => rfl
  case isHigh =>
    exact (hostBlind_phaseAnswered .presHigh b).ite
      ((hostBlind_phaseAnswered .bitRise b).ite hostBlind_id fun _ _ _ => rfl) fun _ _ _ => rfl
  case isLow =>
    exact (hostBlind_phaseAnswered .presLow b).ite
      ((hostBlind_phaseAnswered .bitHigh b).ite hostBlind_id fun _ _ _ => rfl) fun _ _ _ => rfl

theorem hostBlind_pinInstr (op : PinOp) : ∃ f, HostBlind f ∧ ∀ s, exec (pinInstr op) s = .next (f s) :=
  ⟨_, hostBlind_pinTx op (hostBlind_pinAnswered op), exec_pinInstr_pinAnswered op⟩

theorem phaseInstr_of_decodePhase {c : BitVec 4} {i : Instr} (h : decodePhase c = .ok i) :
    ∃ p, i = phaseInstr p := by
  obtain ⟨-, p, rfl⟩ | ⟨-, he⟩ := phaseCode_or_reserved c
  · exact ⟨p, by simpa using h.symm⟩
  · simp [he] at h

theorem pinInstr_of_decodePin {c : BitVec 3} {i : Instr} (h : decodePin c = .ok i) :
    ∃ op, i = pinInstr op := by
  obtain ⟨-, rfl | ⟨op, rfl⟩⟩ | ⟨-, he⟩ := pinCode_or_reserved c
  · cases h
  · exact ⟨op, by simpa using h.symm⟩
  · simp [he] at h

/-! ### The controller's turn -/

variable {s t : State} {v : Word} {ts : List Turn}

/-- A controller step that answers is a host-blind function of the state, whatever RDATA and the turns to
come. -/
theorem hostBlind_step (h : step (withHost v (.controller :: ts) s) = .next t) :
    ∃ f, HostBlind f ∧ ∀ v ts, step (withHost v (.controller :: ts) s) = .next (withHost v ts (f s)) := by
  have hturn (v : Word) (ts : List Turn) : controllerTurn (withHost v (.controller :: ts) s) :=
    .inr ⟨ts, rfl⟩
  obtain ⟨hok, ⟨w, rest, ht, -⟩ | ⟨rest, ht, -⟩ | ⟨-, hport, i, hi, -⟩ | ⟨-, hport, i, hi, -⟩⟩ := step_cases h
  · exact absurd (hturn v ts) (not_controllerTurn_of_host ht)
  · exact absurd (hturn v ts) (not_controllerTurn_of_reset ht)
  · obtain ⟨p, rfl⟩ := phaseInstr_of_decodePhase hi
    obtain ⟨f, hf, hexec⟩ := hostBlind_phaseInstr p
    refine ⟨f, hf, fun v ts => ?_⟩
    rw [step_phase (s := withHost v (.controller :: ts) s) hok (hturn v ts) hport hi, hexec, ← hf.commutes]
    rfl
  · obtain ⟨op, rfl⟩ := pinInstr_of_decodePin hi
    obtain ⟨f, hf, hexec⟩ := hostBlind_pinInstr op
    refine ⟨f, hf, fun v ts => ?_⟩
    rw [step_port (s := withHost v (.controller :: ts) s) hok (hturn v ts) hport hi, hexec, ← hf.commutes]
    rfl

/-- A host read's turn. -/
theorem step_hostRead {w : BitVec 37} (hok : s.params.ok = true) (hwe : hbusWE w = 0) :
    step (withHost v (.host w :: ts) s) = .next (withHost (readSlot s (hbusIDX w)) ts s) := by
  rw [step_host (s := withHost v (.host w :: ts) s) hok rfl, exec_hostRead hwe]
  rfl

theorem runFor_succ_eq_next {n : Nat} (h : runFor (n + 1) s = .next t) :
    ∃ u, step s = .next u ∧ runFor n u = .next t := by
  unfold runFor at h
  split at h
  · exact ⟨_, ‹_›, h⟩
  · cases h
  · cases h

end Blind

/-- Settles O21: the controller's step is host-blind, and the read writes RDATA only. -/
theorem hostReadsCommuteWithControllerSteps : Obligations.HostReadsCommuteWithControllerSteps := by
  intro s w t hwe hrun
  obtain ⟨m, hread, hrest⟩ := runFor_succ_eq_next hrun
  have hok : s.params.ok = true := (step_cases hread).1
  obtain rfl : _ = m := Host.Outcome.next.inj ((step_hostRead hok hwe).symm.trans hread)
  obtain ⟨t', hctrl, hlast⟩ := runFor_succ_eq_next hrest
  obtain ⟨f, hf, hstep⟩ := hostBlind_step hctrl
  obtain rfl : _ = t' := Host.Outcome.next.inj ((hstep ..).symm.trans hctrl)
  obtain rfl : _ = t := Host.Outcome.next.inj hlast
  have hok' : (f s).params.ok = true := hf.params s ▸ hok
  exact ⟨_, (runFor_succ (hstep s.rdata [.host w])).trans (runFor_succ (step_hostRead hok' hwe)), rfl⟩

end Sys2Proof.Machine
end

section
/-! SUPPORT. Encoder and decoder are inverse to each other, and the rows of the opcode table, read field by
field, tell the request words apart (R81, R82, R85, R87). -/

namespace Sys2Proof.Machine

section Codec

variable {i : Instr} {w : BitVec 37} {we : BitVec 1} {idx : BitVec 4} {d : Word}

/-! ### Request words by their fields -/

theorem hbusWord_fields (w : BitVec 37) : hbusWord (hbusWE w) (hbusIDX w) (hbusWDATA w) = w := by
  refine BitVec.eq_of_getLsbD_eq fun i hi => ?_
  obtain h | h | rfl : i < 32 ∨ (32 ≤ i ∧ i < 36) ∨ i = 36 := by omega
  · simp [hbusWord, hbusWE, hbusIDX, hbusWDATA, h, show i < 36 by omega, show i < 37 by omega]
  · simp [hbusWord, hbusWE, hbusIDX, hbusWDATA, h, hi, show ¬i < 32 by omega, show i - 32 < 4 by omega]
  · simp [hbusWord, hbusWE, hbusIDX, hbusWDATA]

theorem hbusWord_and (we we' : BitVec 1) (idx idx' : BitVec 4) (d d' : Word) :
    hbusWord we idx d &&& hbusWord we' idx' d' = hbusWord (we &&& we') (idx &&& idx') (d &&& d') := by
  have hwe (u v : BitVec 37) : hbusWE (u &&& v) = hbusWE u &&& hbusWE v := BitVec.extractLsb'_and
  have hidx (u v : BitVec 37) : hbusIDX (u &&& v) = hbusIDX u &&& hbusIDX v := BitVec.extractLsb'_and
  have hdata (u v : BitVec 37) : hbusWDATA (u &&& v) = hbusWDATA u &&& hbusWDATA v :=
    BitVec.extractLsb'_and
  rw [← hbusWord_fields (hbusWord we idx d &&& hbusWord we' idx' d'), hwe, hidx, hdata]
  simp only [hbusWE_hbusWord, hbusIDX_hbusWord, hbusWDATA_hbusWord]

theorem decodeHbus_hbusWord_read : decodeHbus (hbusWord 0 idx d) = decodeRead idx d := by
  rw [decodeHbus_of_read (hbusWE_hbusWord ..), hbusIDX_hbusWord, hbusWDATA_hbusWord]

/-! ### Decode, then encode -/

theorem ofNat_eq_of_toNat_eq {n : Nat} (h : idx.toNat = n) : BitVec.ofNat 4 n = idx := by
  rw [← h, BitVec.ofNat_toNat, BitVec.setWidth_eq]

/-- An instruction that stands for the request word `w`. -/
def Encodes (i : Instr) (w : BitVec 37) : Prop := i.wf = true ∧ encode i = .hbus w

theorem encodes_decodeRead : Encodes (decodeRead idx d) (hbusWord 0 idx d) := by
  unfold decodeRead
  split
  case h_13 =>
    simp only [imp_false] at *
    exact ⟨decide_eq_true (show 12 ≤ idx.toNat by omega), rfl⟩
  all_goals
    obtain rfl := ofNat_eq_of_toNat_eq ‹idx.toNat = _›
    exact ⟨rfl, rfl⟩

theorem encodes_decodeWrite : Encodes (decodeWrite idx d) (hbusWord 1 idx d) := by
  unfold decodeWrite
  split
  case h_13 =>
    simp only [imp_false] at *
    exact ⟨decide_eq_true (show 12 ≤ idx.toNat by omega), rfl⟩
  case h_1 h =>
    obtain rfl := ofNat_eq_of_toNat_eq h
    split
    case isTrue hbit => exact ⟨hbit, rfl⟩
    case isFalse hbit => exact ⟨by simpa [Instr.wf] using hbit, rfl⟩
  all_goals
    obtain rfl := ofNat_eq_of_toNat_eq ‹idx.toNat = _›
    exact ⟨rfl, rfl⟩

theorem encodes_decodeHbus (w : BitVec 37) : Encodes (decodeHbus w) w := by
  obtain hwe | hwe := bit_cases (hbusWE w)
  · have h := encodes_decodeRead (idx := hbusIDX w) (d := hbusWDATA w)
    rwa [← decodeHbus_of_read hwe, ← hwe, hbusWord_fields] at h
  · have h := encodes_decodeWrite (idx := hbusIDX w) (d := hbusWDATA w)
    rwa [← decodeHbus_of_write hwe, ← hwe, hbusWord_fields] at h

theorem wf_and_encode_pinInstr (op : PinOp) :
    (pinInstr op).wf = true ∧ encode (pinInstr op) = .pin (pinCode op) := by
  cases op <;> exact ⟨rfl, rfl⟩

theorem wf_and_encode_phaseInstr (p : Phase) :
    (phaseInstr p).wf = true ∧ encode (phaseInstr p) = .phase (phaseCode p) := by
  cases p <;> exact ⟨rfl, rfl⟩

/-! ### Encode, then decode -/

theorem decodeRead_of_ge (h : 12 ≤ idx.toNat) : decodeRead idx d = .rdRsvd12 idx d := by
  unfold decodeRead
  split
  case h_13 => rfl
  all_goals omega

theorem decodeWrite_of_ge (h : 12 ≤ idx.toNat) : decodeWrite idx d = .wrRsvd12 idx d := by
  unfold decodeWrite
  split
  case h_13 => rfl
  all_goals omega

/-- Well-formedness counts in the rows that fix a bit of an operand: the two CTRL writes, and IDX 10..11 and
12..15. -/
theorem decode_encode (h : i.wf = true) : decode (encode i) = .ok i := by
  have hread idx d : decode (.hbus (hbusWord 0 idx d)) = .ok (decodeRead idx d) :=
    congrArg Except.ok decodeHbus_hbusWord_read
  have hwrite idx d : decode (.hbus (hbusWord 1 idx d)) = .ok (decodeWrite idx d) :=
    congrArg Except.ok (decodeHbus_hbusWord_write ..)
  have hidx : ∀ idx : BitVec 4, (idx == 10#4 || idx == 11#4) = true → idx = 10 ∨ idx = 11 := by decide
  cases i
  case wrCtrlStart d => exact (hwrite 0 d).trans (congrArg Except.ok (if_pos h))
  case wrCtrlNop d =>
    have hbit : d.getLsbD 0 = false := (Bool.not_eq_true' _).mp h
    exact (hwrite 0 d).trans (congrArg Except.ok (if_neg (ne_true_of_eq_false hbit)))
  case rdRsvd10 idx d => obtain rfl | rfl := hidx idx h <;> exact hread _ d
  case wrRsvd10 idx d => obtain rfl | rfl := hidx idx h <;> exact hwrite _ d
  case rdRsvd12 idx d =>
    exact (hread idx d).trans (congrArg Except.ok (decodeRead_of_ge (of_decide_eq_true h)))
  case wrRsvd12 idx d =>
    exact (hwrite idx d).trans (congrArg Except.ok (decodeWrite_of_ge (of_decide_eq_true h)))
  case rdCtrl | rdConfig | rdStatus | rdFrameLo | rdFrameHi | rdCksum | rdHumidity | rdTemperature
      | rdPinerr | rdRsvd9 => exact hread ..
  case wrConfig | wrStatus | wrFrameLo | wrFrameHi | wrCksum | wrHumidity | wrTemperature | wrPinerr
      | wrRsvd9 => exact hwrite ..
  all_goals rfl

/-! ### The rows of the opcode table -/

theorem isOfRow_iff {k : Nat} :
    isOfRow w k = true ↔ ∃ row, hbusRows[k]? = some row ∧ w &&& row.2 = row.1 := by
  unfold isOfRow
  cases hbusRows[k]? <;> simp

/-- A row fixes WE, and of IDX and WDATA the bits under its masks. -/
theorem isOfRow_hbusWord {k : Nat} {idx' midx : BitVec 4} {d' md : Word}
    (hrow : hbusRows[k]? = some (hbusWord we idx' d', hbusWord 1 midx md))
    (hidx : idx &&& midx = idx') (hd : d &&& md = d') : isOfRow (hbusWord we idx d) k = true := by
  have hwe : we &&& 1 = we := BitVec.and_allOnes (x := we)
  exact isOfRow_iff.mpr ⟨_, hrow, by rw [hbusWord_and, hwe, hidx, hd]⟩

/-- A row that fixes WE and IDX only. -/
theorem isOfRow_slot {k : Nat} (hrow : hbusRows[k]? = some (hbusWord we idx 0, hbusWord 1 15 0)) :
    isOfRow (hbusWord we idx d) k = true :=
  isOfRow_hbusWord hrow BitVec.and_allOnes BitVec.and_zero

theorem and_one_of_getLsbD {b : Bool} (h : d.getLsbD 0 = b) : d &&& 1#32 = BitVec.ofNat 32 b.toNat := by
  rw [BitVec.and_one_eq_setWidth_ofBool_getLsbD, h]
  cases b <;> rfl

/-- The word of an instruction is of the instruction's row. -/
theorem Encodes.isOfRow (h : Encodes i w) : ∃ k, hbusRow i = some k ∧ isOfRow w k = true := by
  have hidx : ∀ idx : BitVec 4, (idx == 10#4 || idx == 11#4) = true → idx &&& 14 = 10 := by decide
  have hidx' : ∀ idx : BitVec 4, decide (12#4 ≤ idx) = true → idx &&& 12 = 12 := by decide
  obtain ⟨hwf, henc⟩ := h
  cases i
  case pinSetLow | pinSetHigh | pinIsHigh | pinIsLow | phaseIdle | phaseWakeLow | phaseWakeHold
      | phaseWakeRelease | phaseWakeSettle | phasePresHigh | phasePresLow | phaseBitRise | phaseBitHigh
      | phaseCheck | phaseDecode | phaseComplete => cases henc
  all_goals
    obtain rfl := PortWord.hbus.inj henc
    refine ⟨_, rfl, ?_⟩
  case wrCtrlStart d => exact isOfRow_hbusWord (midx := 15) rfl rfl (and_one_of_getLsbD hwf)
  case wrCtrlNop d =>
    exact isOfRow_hbusWord (midx := 15) rfl rfl (and_one_of_getLsbD ((Bool.not_eq_true' _).mp hwf))
  case rdRsvd10 idx d | wrRsvd10 idx d => exact isOfRow_hbusWord (md := 0) rfl (hidx idx hwf) BitVec.and_zero
  case rdRsvd12 idx d | wrRsvd12 idx d => exact isOfRow_hbusWord (md := 0) rfl (hidx' idx hwf) BitVec.and_zero
  all_goals exact isOfRow_slot rfl

/-- Two rows whose matches agree under both masks are one row. -/
theorem hbusRows_disjoint : ∀ j k : Fin hbusRows.length,
    hbusRows[j].1 &&& hbusRows[k].2 = hbusRows[k].1 &&& hbusRows[j].2 → j = k := by decide

theorem isOfRow_unique {j k : Nat} (hj : isOfRow w j = true) (hk : isOfRow w k = true) : j = k := by
  obtain ⟨_, hj, hwj⟩ := isOfRow_iff.mp hj
  obtain ⟨_, hk, hwk⟩ := isOfRow_iff.mp hk
  obtain ⟨hjlt, rfl⟩ := List.getElem?_eq_some_iff.mp hj
  obtain ⟨hklt, rfl⟩ := List.getElem?_eq_some_iff.mp hk
  have hagree : hbusRows[j].1 &&& hbusRows[k].2 = hbusRows[k].1 &&& hbusRows[j].2 := by
    rw [← hwj, ← hwk]
    ac_rfl
  exact Fin.mk.inj (hbusRows_disjoint ⟨j, hjlt⟩ ⟨k, hklt⟩ hagree)

end Codec

/-- Settles O6, by the fields of an encoded request, row by row. -/
theorem decodeOfEncodeIsTheInstruction : Obligations.DecodeOfEncodeIsTheInstruction :=
  fun _ => decode_encode

/-- Settles O7, format by format. -/
theorem encodeOfDecodeIsTheWord : Obligations.EncodeOfDecodeIsTheWord := by
  intro w i h
  cases w with
  | hbus w =>
    obtain rfl := Except.ok.inj h
    exact encodes_decodeHbus w
  | pin c =>
    obtain ⟨-, rfl | ⟨op, rfl⟩⟩ | ⟨-, he⟩ := pinCode_or_reserved c
    · cases h
    · obtain rfl := Except.ok.inj ((decodePin_pinCode op).symm.trans h)
      exact wf_and_encode_pinInstr op
    · cases he.symm.trans h
  | phase c =>
    obtain ⟨-, p, rfl⟩ | ⟨-, he⟩ := phaseCode_or_reserved c
    · obtain rfl := Except.ok.inj ((decodePhase_phaseCode p).symm.trans h)
      exact wf_and_encode_phaseInstr p
    · cases he.symm.trans h

/-- Settles O8: a word is of its decoded instruction's row, and of one row at most. -/
theorem everyRequestWordIsOfExactlyOneRow : Obligations.EveryRequestWordIsOfExactlyOneRow := by
  intro w k
  obtain ⟨j, hrow, hj⟩ := (encodes_decodeHbus w).isOfRow
  rw [hrow, Option.some_inj]
  exact ⟨fun hk => isOfRow_unique hj hk, fun h => h ▸ hj⟩

/-- Settles O9: every other code is a pin operation's or a phase's. -/
theorem reservedCodesAreRejected : Obligations.ReservedCodesAreRejected := by
  refine ⟨fun c => ?_, fun c => ?_⟩
  · obtain ⟨hle, rfl | ⟨op, rfl⟩⟩ | ⟨hge, he⟩ := pinCode_or_reserved c
    · exact iff_of_true rfl (.inl rfl)
    · exact iff_of_false (by simp) (not_or_intro (pinCode_ne_zero op) (by omega))
    · exact iff_of_true he (.inr hge)
  · obtain ⟨hle, p, rfl⟩ | ⟨hge, he⟩ := phaseCode_or_reserved c
    · exact iff_of_false (by simp) (by omega)
    · exact iff_of_true he hge

/-- Settles O10, by evaluation. -/
theorem wordsOfTheSpecDecode : Obligations.WordsOfTheSpecDecode :=
  ⟨rfl, rfl, rfl, rfl, rfl, rfl⟩

end Sys2Proof.Machine
end

section
/-! SUPPORT. The registers as the host reads them, field by field: what stands at a bit range of a word made of
fields, and the statements of R110 to R131 for single accesses (R26, R32, R33, R84). -/

namespace Sys2Proof.Machine

/-! ### Words made of fields -/

theorem getElem_fieldAt {w : Nat} (v : BitVec w) (lo : Nat) {i : Nat} (hi : i < 32) :
    (fieldAt lo v)[i] = (decide (lo ≤ i) && v.getLsbD (i - lo)) := by
  simp [fieldAt, ← decide_not]

/-- The place of a field holds the field. -/
theorem extractLsb'_fieldAt {w : Nat} (v : BitVec w) {lo : Nat} (h : lo + w ≤ 32) :
    (fieldAt lo v).extractLsb' lo w = v := by
  ext i hi
  rw [BitVec.getElem_extractLsb', BitVec.getLsbD_eq_getElem (by omega), getElem_fieldAt]
  simp [hi]

/-- Any other place of the word is 0. -/
theorem extractLsb'_fieldAt_apart {w : Nat} (v : BitVec w) {lo p n : Nat} (hword : p + n ≤ 32)
    (h : p + n ≤ lo ∨ lo + w ≤ p) : (fieldAt lo v).extractLsb' p n = 0 := by
  ext i hi
  rw [BitVec.getElem_extractLsb', BitVec.getLsbD_eq_getElem (by omega), getElem_fieldAt]
  obtain hbelow | habove := h
  · simp [show ¬lo ≤ p + i by omega]
  · simp [BitVec.getLsbD_of_ge v (p + i - lo) (by omega)]

theorem fieldAt_zero (w lo : Nat) : fieldAt lo 0#w = 0 := by simp [fieldAt]

/-! ### BUSY and DONE -/

theorem busy_eq_decide (s : State) : busy s = decide (s.phase ≠ 0 ∧ s.phase ≠ 11) := by
  rw [Bool.decide_and, decide_not, decide_not]
  rfl

theorem done_eq_decide (s : State) : done s = decide (s.phase = 11) := rfl

theorem busy_of_phase {s : State} (hidle : s.phase ≠ 0) (hcomplete : s.phase ≠ 11) : busy s = true := by
  rw [busy_eq_decide, decide_eq_true ⟨hidle, hcomplete⟩]

/-! ### The frame -/

/-- FRAME_LO holds the first four bytes, `frame[0]` in the most significant place (R32). -/
theorem extractLsb'_frameLo (s : State) (k : Nat) (hk : k < 4) :
    (frameLo s).extractLsb' (24 - 8 * k) 8 = frameByte s.frame k := by
  interval_cases k <;>
    simp (disch := omega) [frameLo, BitVec.extractLsb'_or, extractLsb'_fieldAt, extractLsb'_fieldAt_apart]

/-- The first stream bit is FRAME_LO's most significant (R64, R118). -/
theorem getLsbD_frameLo (s : State) {i : Nat} (hi : i < 32) :
    (frameLo s).getLsbD (31 - i) = streamBit s.frame i := by
  have hplace : 24 - 8 * (i / 8) + (7 - i % 8) = 31 - i := by omega
  have hbyte : 7 - i % 8 < 8 := by omega
  rw [streamBit, ← extractLsb'_frameLo s (i / 8) (by omega), BitVec.getLsbD_extractLsb', hplace,
    decide_eq_true hbyte, Bool.true_and]

/-! ### VARIANT -/

theorem configWord_eq (s : State) : configWord s = if s.variant = 1 then 1 else 0 := by
  unfold configWord
  obtain h | h := bit_cases s.variant <;> rw [h] <;> rfl

theorem wdataBit0_eq (d : Word) : wdataBit0 d = if d.getLsbD 0 then 1 else 0 := by
  have hbit : (wdataBit0 d).getLsbD 0 = d.getLsbD 0 := by simp [wdataBit0]
  rw [← hbit]
  obtain h | h := bit_cases (wdataBit0 d) <;> rw [h] <;> rfl

/-! ### The host's accesses -/

/-- Settles O13, field by field. -/
theorem statusReadsItsFields : Obligations.StatusReadsItsFields := by
  refine ⟨fun s _ => ⟨statusWord s, rfl, ?_⟩, by decide⟩
  refine ⟨?_, ?_, ?_⟩
  · simp [statusWord, getElem_fieldAt, busy_eq_decide]
  · simp [statusWord, getElem_fieldAt, done_eq_decide]
  · simp (disch := omega) [statusWord, BitVec.extractLsb'_or, extractLsb'_fieldAt, extractLsb'_fieldAt_apart]

/-- Settles O14: FRAME_LO byte by byte and then bit by bit, FRAME_HI by its one field. -/
theorem frameReadsInArrivalOrder : Obligations.FrameReadsInArrivalOrder := by
  refine fun s _ => ⟨⟨frameLo s, rfl, ?_⟩, ⟨frameHi s, rfl, ?_, ?_⟩⟩
  · have hbyte := extractLsb'_frameLo s
    exact ⟨hbyte 0 (by decide), hbyte 1 (by decide), hbyte 2 (by decide), hbyte 3 (by decide),
      fun _ => getLsbD_frameLo s⟩
  · exact extractLsb'_fieldAt _ (by decide)
  · exact extractLsb'_fieldAt_apart _ (by decide) (.inr (by decide))

/-- Settles O15, field by field; without CKV both bytes are 0 by what CKSUM means. -/
theorem cksumReadsItsFields : Obligations.CksumReadsItsFields := by
  refine ⟨fun s _ => ⟨cksumWord s, rfl, ?_⟩, fun s h hckv => ?_⟩
  · simp (disch := omega) [cksumWord, BitVec.extractLsb'_or, extractLsb'_fieldAt, extractLsb'_fieldAt_apart]
  · obtain ⟨hreceived, hcalc⟩ := h.cksum.2 hckv
    simp [cksumWord, hreceived, hcalc, hckv, fieldAt_zero]

/-- Settles O11: each of the four reads answers 0. -/
theorem ctrlAndReservedSlotsReadZero : Obligations.CtrlAndReservedSlotsReadZero :=
  fun _ _ _ => List.forall_iff_forall_mem.mp ⟨rfl, rfl, rfl, rfl⟩

/-- Settles O12, by the two values of VARIANT. -/
theorem configReadsTheVariant : Obligations.ConfigReadsTheVariant :=
  fun s _ => congrArg (fun v => Host.Outcome.next (respond v s)) (configWord_eq s)

/-- Settles O16; HUMIDITY is 0 without VALID by what the result registers mean. -/
theorem resultRegistersReadThemselves : Obligations.ResultRegistersReadThemselves :=
  ⟨fun _ _ => ⟨rfl, rfl, rfl⟩, fun s h hvalid => (h.noReading ((bit_cases s.valid).resolve_right hvalid)).1⟩

/-- Settles O17: each of the eleven writes answers the state it got. -/
theorem ignoredWritesChangeNothing : Obligations.IgnoredWritesChangeNothing :=
  fun _ _ _ => List.forall_iff_forall_mem.mp ⟨rfl, rfl, rfl, rfl, rfl, rfl, rfl, rfl, rfl, rfl, rfl⟩

/-- Settles O18, by whether the block is BUSY. -/
theorem configWriteSetsTheVariantUnlessBusy : Obligations.ConfigWriteSetsTheVariantUnlessBusy := by
  refine fun s d => ⟨fun hphase => ?_, fun hidle hcomplete => ?_⟩
  · rw [← wdataBit0_eq]
    exact congrArg Host.Outcome.next (if_neg (ne_true_of_eq_false (not_busy_iff.mpr hphase)))
  · exact congrArg Host.Outcome.next (if_pos (busy_of_phase hidle hcomplete))

/-- Settles O19, by whether the block is BUSY; it is once a read began. -/
theorem startBeginsAReadUnlessBusy : Obligations.StartBeginsAReadUnlessBusy := by
  refine ⟨fun s _ hphase => ⟨?_, ?_⟩, fun s _ hidle hcomplete => ?_, by decide⟩
  · exact congrArg Host.Outcome.next (startRead_eq_started (not_busy_iff.mpr hphase))
  · exact congrArg Host.Outcome.next (startRead_busy (started s) rfl)
  · exact congrArg Host.Outcome.next (startRead_busy s (busy_of_phase hidle hcomplete))

end Sys2Proof.Machine
end

section
/-! SUPPORT. Wake-up and presence (41_wakeup_presence.md): the delays tick by tick and to their end, and a
poll that exhausts its budget (R141, R143 to R150, R230, R249). -/

namespace Sys2Proof.Machine

section Handshake

variable {s t : State}

theorem runFor_add {m : Nat} (h : runFor m s = .next t) (n : Nat) : runFor (m + n) s = runFor n t := by
  induction m generalizing s with
  | zero =>
    cases h
    rw [Nat.zero_add]
  | succ m ih =>
    obtain ⟨u, hs, hu⟩ := runFor_succ_eq_next h
    rw [Nat.add_right_comm, runFor_succ hs, ih hu]

/-! ### Delays -/

theorem delayStep_last {finish : State → State} (ht : nextTick s = true) (hd : s.dcnt = 1) :
    delayStep finish s = finish { ticked s with dcnt := s.dcnt - 1 } :=
  (onTick_true _ _ ht).trans (if_pos (sub_eq_zero.mpr hd))

theorem delayStep_more {finish : State → State} (ht : nextTick s = true) (hd : s.dcnt ≠ 1) :
    delayStep finish s = { ticked s with dcnt := s.dcnt - 1 } :=
  (onTick_true _ _ ht).trans (if_neg (mt sub_eq_zero.mp hd))

/-- The phases that advance without a transaction are the two delays (R144, R146). -/
theorem exec_delay {p : Phase} (hop : phasePinOp p = none) (ha : advances p = true) (s : State) :
    exec (phaseInstr p) s = .next (delayStep (phaseDone p) s) := by
  cases p <;> cases hop <;> cases ha
  case wakeHold => rfl
  case wakeSettle => rfl

theorem step_delay {p : Phase} (hop : phasePinOp p = none) (ha : advances p = true)
    (hok : s.params.ok = true) (hturns : s.turns = []) (hport : s.port = 0) (hp : s.at p) :
    step s = .next (delayStep (phaseDone p) s) := by
  rw [step_phase hok (.inl hturns) hport (hp ▸ decodePhase_phaseCode p), afterTurn_nil hturns,
    exec_delay hop ha]

/-- A delay of `n + 1` ticks in a row takes as many steps and then ends its phase (R144, R146). -/
theorem runFor_delay {p : Phase} {n : Nat} {rest : List Bool} (hop : phasePinOp p = none)
    (ha : advances p = true) (hok : s.params.ok = true) (hturns : s.turns = []) (hport : s.port = 0)
    (hp : s.at p) (hd : s.dcnt.toNat = n + 1) (hticks : s.ticks = List.replicate (n + 1) true ++ rest) :
    runFor (n + 1) s =
      .next (phaseDone p { s with dcnt := 0, ticks := rest, tickDraws := s.tickDraws + (n + 1) }) := by
  induction n generalizing s with
  | zero =>
    have hone : s.dcnt = 1 := BitVec.eq_of_toNat_eq hd
    rw [runFor_succ (step_delay hop ha hok hturns hport hp),
      delayStep_last (nextTick_cons hticks) hone, sub_eq_zero.mpr hone, ticked, hticks]
    rfl
  | succ n ih =>
    have hmore : s.dcnt ≠ 1 := fun hone => by simp [hone] at hd
    have hpred : (s.dcnt - 1).toNat = n + 1 := by
      rw [BitVec.toNat_sub_of_le (BitVec.le_def.mpr (hd ▸ Nat.succ_pos _)), hd]
      rfl
    rw [runFor_succ (step_delay hop ha hok hturns hport hp),
      delayStep_more (nextTick_cons hticks) hmore,
      ih (s := { ticked s with dcnt := s.dcnt - 1 }) hok hturns hport hp hpred (by rw [ticked, hticks]; rfl)]
    simp only [ticked, Nat.add_assoc, Nat.add_comm 1]

/-! ### Exhausted polls -/

/-- R149, in the codes of R87 and R88. -/
theorem raiseError_pollError (s u : State) :
    raiseError (pollError s) u = errored (if s.phase = 5 ∨ s.phase = 6 then 1 else 4) u := by
  by_cases h : s.phase = 5 ∨ s.phase = 6
  · rw [if_pos h, show pollError s = .notPresent from if_pos h]
    rfl
  · rw [if_neg h, show pollError s = .timeout from if_neg h]
    rfl

/-- The N-th failed sample, with its tick, ends the poll (R141). -/
theorem Sound.step_pollExhausted (h : Sound s) (hpoll : polling s) (hturns : s.turns = [])
    (ha : s.awaitTick = false) (hlast : s.ecnt.toNat + 1 = pollBudget s) (hr : nextReply s = .ok false)
    (ht : nextTick s = true) :
    step s = .next
      (raiseError (pollError s) { ticked (answered s) with ecnt := s.ecnt + 1, awaitTick := false }) := by
  obtain ⟨p, hp⟩ := h.phase_eq
  rw [h.step_poll hturns hp hpoll, pollStep_failed ha hr, failedSample_onTime (s := answered s) ht]
  exact congrArg _ (countFailed_last (s := ticked (answered s)) _ hlast)

/-- All samples of a poll but the last fit the 16-bit count (R10, R37, R141). -/
theorem pollBudget_le (h : s.params.ok = true) (hpoll : polling s) : pollBudget s ≤ 65536 := by
  simp only [Params.ok, Bool.and_eq_true, budgetOk_iff] at h
  have hle (n : Nat) (hn : n ≤ 65535) : s.params.samples n ≤ 65536 := by
    unfold Params.samples
    split <;> omega
  obtain hp | hp | hp | hp := hpoll <;>
    (rw [pollBudget_eq hp, phaseBudget]; exact hle _ (by omega))

end Handshake

/-- Settles O25, by the last tick of a delay and the ones before it, and `runFor_delay` for a whole delay. -/
theorem delayPhasesCountOneTick : Obligations.DelayPhasesCountOneTick := by
  refine ⟨fun s ht => ?_, fun s n rest hok hturns hport hn hd hticks => ?_⟩
  · by_cases hd : s.dcnt = 1
    · simp only [if_pos hd]
      exact ⟨congrArg _ (delayStep_last ht hd), congrArg _ (delayStep_last ht hd)⟩
    · simp only [if_neg hd]
      exact ⟨congrArg _ (delayStep_more ht hd), congrArg _ (delayStep_more ht hd)⟩
  · obtain ⟨n, rfl⟩ := Nat.exists_eq_add_of_le' hn
    exact ⟨fun hp => runFor_delay (p := .wakeHold) rfl rfl hok hturns hport hp hd hticks,
      fun hp => runFor_delay (p := .wakeSettle) rfl rfl hok hturns hport hp hd hticks⟩

/-- Settles O52: all samples but the last are counted, and the last one ends the poll. -/
theorem anExhaustedPollNamesItsPhase : Obligations.AnExhaustedPollNamesItsPhase := by
  intro s restL restT h hpoll hturns hport ha hecnt hline hticks
  obtain ⟨k, hk⟩ := Nat.exists_eq_add_one.mpr (pollBudget_pos h.paramsOk hpoll)
  have hle := pollBudget_le h.paramsOk hpoll
  rw [hk, List.replicate_succ', List.append_assoc] at hline hticks
  have hcounted := failedSamplesAreCounted s k _ _ h hpoll hturns hport ha (by simp [hecnt, hk]) hline hticks
  have hlast : (s.ecnt + BitVec.ofNat 16 k).toNat + 1 = pollBudget s := by
    rw [hecnt, BitVec.ofNat_eq_ofNat, BitVec.zero_add, BitVec.toNat_ofNat, Nat.mod_eq_of_lt (by omega), hk]
  rw [hk, runFor_add hcounted 1]
  refine Eq.trans (runFor_succ (Sound.step_pollExhausted (h.of_soundFields rfl) hpoll hturns ha hlast
    rfl rfl)) ?_
  rw [raiseError_pollError, BitVec.ofNat_add]
  refine congrArg Host.Outcome.next ?_
  simp [errored, ticked, answered, hecnt, Nat.add_assoc, ha, hport]

/-- Settles O24, by what a set transaction does with its answer. -/
theorem wakeSetPhases : Obligations.WakeSetPhases :=
  ⟨setStepMeans_of_exec (op := .setLow) (k := fun _ _ => wakeLowDone) (fun _ _ => rfl) fun _ _ _ => rfl,
    setStepMeans_of_exec (op := .setHigh) (k := fun _ _ => wakeReleaseDone) (fun _ _ => rfl) fun _ _ _ => rfl⟩

/-- Settles O26: with no tick wait open, a step of a poll takes one sample. -/
theorem presencePolls : Obligations.PresencePolls :=
  ⟨pollStepMeans_of_exec (op := .isHigh) (e := .notPresent)
      (fun _ ha => congrArg _ (pollStep_of_not_awaitTick ha)) fun _ => rfl,
    pollStepMeans_of_exec (op := .isLow) (e := .notPresent)
      (fun _ ha => congrArg _ (pollStep_of_not_awaitTick ha)) fun _ => rfl⟩

/-- Settles O34: a controller step of a sound state runs its phase, and these two answer the state they got. -/
theorem idleAndCompleteAreQuiescent : Obligations.IdleAndCompleteAreQuiescent := by
  refine ⟨fun s => ⟨rfl, rfl⟩, ?_⟩
  rintro s h hturns (hp | hp)
  · exact h.step_phaseInstr (p := .idle) hturns hp
  · exact h.step_phaseInstr (p := .complete) hturns hp

end Sys2Proof.Machine
end

section
/-! SUPPORT. The bit-sampling loop (42_bit_sampling.md): the bits that every step keeps at 0, a poll that
succeeds, one pulse and a stream of pulses (R160 to R167, R249). -/

namespace Sys2Proof.Machine

section Loop

variable {s t : State}

/-! ### The bits not yet received -/

theorem PartialFrame.of_fields (h : PartialFrame s) (e : (t.frame, t.bitcnt) = (s.frame, s.bitcnt)) :
    PartialFrame t := by
  obtain ⟨hframe, hbits⟩ := Prod.mk.inj e
  rw [PartialFrame, hframe, hbits]
  exact h

theorem partialFrame_of_frame_zero (h : s.frame = 0) : PartialFrame s := fun _ _ _ => by simp [h]

/-- Storing a stream bit leaves the places of the other stream bits as they were (R164). -/
theorem getLsbD_storeFrameBit_of_ne (f : BitVec 40) (b : BitVec 1) {i j : Nat} (hi : i < 40) (hj : j < 40)
    (hne : j ≠ i) : (storeFrameBit f i b).getLsbD (39 - j) = f.getLsbD (39 - j) := by
  rw [← streamBit_eq_getLsbD _ hj, ← streamBit_eq_getLsbD _ hj, assemblerPlacesExactlyOneBit f b i j hi hj,
    if_neg hne]

theorem toNat_bitcnt_succ {b : BitVec 6} (h : b.toNat < 40) : (b + 1).toNat = b.toNat + 1 :=
  BitVec.toNat_add_of_lt (show b.toNat + 1 < 2 ^ 6 by omega)

theorem bitHighDone_partialFrame (hbits : s.bitcnt.toNat < 40) (h : PartialFrame s) :
    PartialFrame (bitHighDone s) := by
  intro j hle hj
  have hcount : (bitHighDone s).bitcnt.toNat = s.bitcnt.toNat + 1 := by
    rw [bitHighDone_bitcnt, toNat_bitcnt_succ hbits]
  have hlater : s.bitcnt.toNat < j := by omega
  rw [bitHighDone_frame, getLsbD_storeFrameBit_of_ne _ _ hbits hj hlater.ne']
  exact h j hlater.le hj

/-- Of the phases that advance, only BIT_HIGH stores a bit. -/
theorem phaseDone_partialFrame {p : Phase} (hbits : phaseBits p s.bitcnt) (h : PartialFrame s) :
    PartialFrame (phaseDone p s) := by
  cases p
  case bitHigh => exact bitHighDone_partialFrame hbits h
  all_goals exact h.of_fields rfl

theorem raiseError_partialFrame (e : ErrKind) (h : PartialFrame s) : PartialFrame (raiseError e s) :=
  h.of_fields (by simp)

/-! ### A poll that succeeds -/

theorem pollStep_succeeds {level : PulseLevel} {n : Nat} {e : ErrKind} {success : State → State}
    (ha : s.awaitTick = false) (hr : nextReply s = .ok true) :
    pollStep level n e success s = success (answered s) :=
  (pollStep_of_not_awaitTick ha).trans (pinTx_ok _ _ hr)

/-- The state once `n` answers and `m` ticks are taken and these are left. -/
def withInputs (restL : List PinReply) (n : Nat) (restT : List Bool) (m : Nat) (s : State) : State :=
  { s with line := restL, lineDraws := s.lineDraws + n, ticks := restT, tickDraws := s.tickDraws + m }

section Poll

variable {p : Phase} {restL : List PinReply} {restT : List Bool} (hok : s.params.ok = true)
  (hturns : s.turns = []) (hp : s.at p) (hpoll : polling s)
include hok hturns hp hpoll

/-- A controller step in a poll; the registers that polls do not look at may hold anything. -/
theorem step_poll (hport : s.port = 0) :
    step s = .next (pollStep (pollLevel p) (pollBudget s) (pollError s) (pollDone p) s) := by
  rw [step_phase hok (.inl hturns) hport (hp ▸ decodePhase_phaseCode p), afterTurn_nil hturns,
    exec_poll hp hpoll]

/-- A failed sample with its tick, before the last one of the budget (R141). -/
theorem step_pollFailed (hw : NoWait s) (hlt : s.ecnt.toNat + 1 < pollBudget s)
    (hline : s.line = .ok false :: restL) (hticks : s.ticks = true :: restT) :
    step s = .next (sampleFailed restL restT s) := by
  obtain ⟨hport, ha⟩ := hw
  rw [step_poll hok hturns hp hpoll hport, pollStep_failed ha (nextReply_cons hline),
    failedSample_more (s := answered s) _ (nextTick_cons hticks) hlt.ne]
  simp [sampleFailed, answered, takeTick, hline, hticks, hport, ha]

/-- `P(k)` within the budget: k failed samples with their ticks, then the one that succeeds (R141, R249). -/
theorem runFor_poll {k : Nat} (hw : NoWait s) (hlt : s.ecnt.toNat + k < pollBudget s)
    (hline : s.line = (LineTok.poll k).replies ++ restL)
    (hticks : s.ticks = List.replicate k true ++ restT) :
    runFor (k + 1) s = .next
      (pollDone p { withInputs restL (k + 1) restT k s with ecnt := s.ecnt + BitVec.ofNat 16 k }) := by
  induction k generalizing s with
  | zero =>
    obtain ⟨hport, ha⟩ := hw
    have hline' : s.line = .ok true :: restL := hline
    have hticks' : s.ticks = restT := hticks
    rw [runFor_succ (step_poll hok hturns hp hpoll hport), pollStep_succeeds ha (nextReply_cons hline')]
    refine congrArg (fun u => Host.Outcome.next (pollDone p u)) ?_
    simp [answered, withInputs, hline', hport, hticks']
  | succ k ih =>
    have hline' : s.line = .ok false :: ((LineTok.poll k).replies ++ restL) := hline
    have hticks' : s.ticks = true :: (List.replicate k true ++ restT) := hticks
    have hcount := toNat_add_one_le s.ecnt
    have hlt' : (s.ecnt + 1).toNat + k < pollBudget s := by omega
    rw [runFor_succ (step_pollFailed hok hturns hp hpoll hw (by omega) hline' hticks'),
      ih (s := sampleFailed _ _ s) hok hturns hp hpoll hw hlt' rfl rfl]
    simp only [withInputs, sampleFailed, BitVec.ofNat_add, BitVec.add_assoc, Nat.add_assoc, Nat.add_comm 1,
      BitVec.add_comm (BitVec.ofNat 16 k)]
    rfl

end Poll

/-! ### Pulses -/

/-- What a pulse that carries this bit leaves of the registers: the bit stored, and the next one due, or CHECK
after bit 39 (R162 to R164). -/
def bitReceived (b : Bool) (s : State) : State :=
  { s with
    frame := storeFrameBit s.frame s.bitcnt.toNat (BitVec.ofBool b), bitcnt := s.bitcnt + 1, ecnt := 0,
    phase := if s.bitcnt + 1 = 40 then 9 else 7 }

theorem bitHighDone_eq_bitReceived (s : State) :
    bitHighDone s = bitReceived (pulseBit s.params s.ecnt.toNat) s := rfl

section Pulse

variable {a b : Nat} {restL : List PinReply} {restT : List Bool} (hok : s.params.ok = true)
  (hturns : s.turns = []) (hw : NoWait s) (he : s.ecnt = 0)
include hok hturns hw he

/-- The rise wait of a pulse: its count is discarded (R161). -/
theorem runFor_rise (hp : s.at .bitRise) (ha : a < s.params.samples s.params.tRise)
    (hline : s.line = (LineTok.poll a).replies ++ restL) (hticks : s.ticks = List.replicate a true ++ restT) :
    runFor (a + 1) s = .next (bitRiseDone (withInputs restL (a + 1) restT a s)) := by
  have hbudget : a < pollBudget s := ha.trans_eq (pollBudget_eq hp).symm
  have hlt : s.ecnt.toNat + a < pollBudget s := by simpa [he] using hbudget
  rw [runFor_poll hok hturns hp (.inr (.inr (.inl hp))) hw hlt hline hticks]
  rfl

/-- The high time of a pulse: its count gives the bit (R162, R163). -/
theorem runFor_high (hp : s.at .bitHigh) (hb : b < s.params.samples s.params.tHighCap)
    (hline : s.line = (LineTok.poll b).replies ++ restL) (hticks : s.ticks = List.replicate b true ++ restT) :
    runFor (b + 1) s = .next (bitReceived (pulseBit s.params b) (withInputs restL (b + 1) restT b s)) := by
  have hpoll : polling s := .inr (.inr (.inr hp))
  have hbudget : b < pollBudget s := hb.trans_eq (pollBudget_eq hp).symm
  have hlt : s.ecnt.toNat + b < pollBudget s := by simpa [he] using hbudget
  have hcount : (s.ecnt + BitVec.ofNat 16 b).toNat = b := by
    rw [he, BitVec.ofNat_eq_ofNat, BitVec.zero_add, BitVec.toNat_ofNat,
      Nat.mod_eq_of_lt (hbudget.trans_le (pollBudget_le hok hpoll))]
  rw [runFor_poll hok hturns hp hpoll hw hlt hline hticks, pollDone, bitHighDone_eq_bitReceived]
  simp only [hcount]
  rfl

/-- One pulse: the rise wait, then the high time (R160). -/
theorem runFor_pulse (hp : s.at .bitRise) (ha : a < s.params.samples s.params.tRise)
    (hb : b < s.params.samples s.params.tHighCap)
    (hline : s.line = (LineTok.poll a).replies ++ ((LineTok.poll b).replies ++ restL))
    (hticks : s.ticks = List.replicate a true ++ (List.replicate b true ++ restT)) :
    runFor (a + b + 2) s =
      .next (bitReceived (pulseBit s.params b) (withInputs restL (a + b + 2) restT (a + b) s)) := by
  have hsteps : a + b + 2 = (a + 1) + (b + 1) := by omega
  rw [hsteps, runFor_add (runFor_rise hok hturns hw he hp ha hline hticks),
    runFor_high (s := bitRiseDone (withInputs _ (a + 1) _ a s)) hok hturns hw rfl rfl hb rfl rfl]
  simp only [bitReceived, bitRiseDone, withInputs, Nat.add_assoc]

end Pulse

/-! ### Streams -/

/-- R165's shift: a bit enters the register at bit 0. -/
def shiftIn (f : BitVec 40) (b : Bool) : BitVec 40 := (f <<< 1) ||| (BitVec.ofBool b).setWidth 40

theorem streamFrame_eq_foldl (bits : List Bool) : streamFrame bits = bits.foldl shiftIn 0 := rfl

/-- Storing the next stream bit in its place is shifting it into the bits received so far (R164, R165). -/
theorem storeFrameBit_shiftIn (f : BitVec 40) (b : Bool) {i n : Nat} (hi : i + (n + 1) = 40) :
    storeFrameBit (f <<< (n + 1)) i (BitVec.ofBool b) = shiftIn f b <<< n := by
  have hplace : 39 - i = n := by omega
  rw [storeFrameBit_eq_or _ (by omega), hplace, shiftIn, BitVec.shiftLeft_or_distrib, ← BitVec.shiftLeft_add,
    Nat.add_comm 1 n]

theorem pulsesSteps_cons (q : Nat × Nat) (pulses : List (Nat × Nat)) :
    pulsesSteps (q :: pulses) = q.1 + q.2 + 2 + pulsesSteps pulses := rfl

theorem pulsesTicks_cons (q : Nat × Nat) (pulses : List (Nat × Nat)) :
    pulsesTicks (q :: pulses) = q.1 + q.2 + pulsesTicks pulses := rfl

theorem scriptReplies_pulsesScript_cons (q : Nat × Nat) (pulses : List (Nat × Nat)) :
    scriptReplies (pulsesScript (q :: pulses)) =
      (LineTok.poll q.1).replies ++ ((LineTok.poll q.2).replies ++ scriptReplies (pulsesScript pulses)) := rfl

/-- The pulses that are still to come shift their bits into those received, up to the fortieth (R160, R165,
R166). -/
theorem runFor_pulses {pulses : List (Nat × Nat)} {received : BitVec 40} {restL : List PinReply}
    {restT : List Bool} (hok : s.params.ok = true) (hturns : s.turns = []) (hw : NoWait s) (he : s.ecnt = 0)
    (hcount : s.bitcnt.toNat + pulses.length = 40) (hphase : s.phase = if s.bitcnt = 40 then 9 else 7)
    (hframe : s.frame = received <<< pulses.length) (hfit : pulsesFit s.params pulses)
    (hline : s.line = scriptReplies (pulsesScript pulses) ++ restL)
    (hticks : s.ticks = List.replicate (pulsesTicks pulses) true ++ restT) :
    runFor (pulsesSteps pulses) s = .next
      { withInputs restL (pulsesSteps pulses) restT (pulsesTicks pulses) s with
        frame := (pulses.map fun q => pulseBit s.params q.2).foldl shiftIn received, bitcnt := 40,
        phase := 9 } := by
  induction pulses generalizing s received with
  | nil =>
    have hdone : s.bitcnt = 40 := BitVec.eq_of_toNat_eq hcount
    rw [if_pos hdone] at hphase
    have hline' : s.line = restL := hline
    have hticks' : s.ticks = restT := hticks
    have hframe' : s.frame = received := by simpa using hframe
    cases s
    subst_vars
    rfl
  | cons q pulses ih =>
    obtain ⟨hq, hfit⟩ := List.forall_mem_cons.mp hfit
    rw [List.length_cons] at hcount hframe
    have hmore : s.bitcnt.toNat < 40 := by omega
    have hp : s.at .bitRise := hphase.trans (if_neg fun h40 => by simp [h40] at hmore)
    have hcount' : (s.bitcnt + 1).toNat + pulses.length = 40 := by
      rw [toNat_bitcnt_succ hmore]
      omega
    rw [scriptReplies_pulsesScript_cons, List.append_assoc, List.append_assoc] at hline
    rw [pulsesTicks_cons, List.replicate_add, List.replicate_add, List.append_assoc, List.append_assoc] at hticks
    have hstored : storeFrameBit s.frame s.bitcnt.toNat (BitVec.ofBool (pulseBit s.params q.2)) =
        shiftIn received (pulseBit s.params q.2) <<< pulses.length := by
      rw [hframe, storeFrameBit_shiftIn _ _ hcount]
    rw [pulsesSteps_cons, runFor_add (runFor_pulse hok hturns hw he hp hq.1 hq.2 hline hticks),
      ih (s := bitReceived _ (withInputs _ _ _ _ s)) hok hturns hw rfl hcount' rfl hstored hfit rfl rfl]
    simp [bitReceived, withInputs, he, pulsesTicks_cons, Nat.add_assoc]

end Loop

/-- Settles O49, by the outcomes of a step: only BIT_HIGH stores a bit, and START and reset clear the frame. -/
theorem bitsNotReceivedReadZero : Obligations.BitsNotReceivedReadZero := by
  intro s t h hf hs
  have hwait (w : State) : PartialFrame (withWaits s w) := hf.of_fields rfl
  cases h.stepEffect hs with
  | stay w => exact hwait w
  | start => exact partialFrame_of_frame_zero rfl
  | config => exact hf.of_fields rfl
  | reset => exact partialFrame_of_frame_zero rfl
  | advance _ hp ha w =>
    exact phaseDone_partialFrame (s := withWaits s w) (h.unended hp (ne_complete_of_advances ha)).bits (hwait w)
  | exhaust _ _ _ w => exact raiseError_partialFrame _ (hwait w)
  | pinError _ _ _ _ w => exact raiseError_partialFrame _ (hwait w)
  | checkPass => exact hf.of_fields rfl
  | checkFail => exact raiseError_partialFrame _ (hf.of_fields rfl)
  | decodePass => exact hf.of_fields rfl
  | decodeFail => exact raiseError_partialFrame _ (hf.of_fields rfl)

/-- Settles O55: the frame is the register of R165's shifts, moved up by the bits still to come. -/
theorem fortyPulsesMakeTheFrame : Obligations.FortyPulsesMakeTheFrame := by
  intro s pulses restL restT hok hturns hport ha hp hbits hframe he hlen hfit hline hticks
  rw [streamFrame_eq_foldl]
  exact runFor_pulses (received := 0) hok hturns ⟨hport, ha⟩ he (by simp [hbits, hlen]) (by simp [hp, hbits])
    (by simp [hframe]) hfit hline hticks

/-- Settles O27: with no tick wait open, a step of the rise wait takes one sample. -/
theorem bitRisePoll : Obligations.BitRisePoll :=
  pollStepMeans_of_exec (op := .isHigh) (e := .timeout)
    (fun _ ha => congrArg _ (pollStep_of_not_awaitTick ha)) fun _ => rfl

/-- Settles O28: with no tick wait open, a step of the high wait takes one sample, and its success classifies
the count. -/
theorem bitHighPollStoresTheClassifiedBit : Obligations.BitHighPollStoresTheClassifiedBit := by
  refine ⟨?_, classify_eq, fun e => ?_⟩
  · rw [← bitHighDone_eq_bitHighSuccess]
    exact pollStepMeans_of_exec (op := .isLow) (e := .timeout)
      (fun _ ha => congrArg _ (pollStep_of_not_awaitTick ha)) fun _ => rfl
  · have hthresh : Params.default.tThresh = 30 := rfl
    by_cases h : e.toNat ≤ 30
    · rw [classify_eq, hthresh, if_neg h.not_gt, if_pos h]
    · rw [classify_eq, hthresh, if_pos (lt_of_not_ge h), if_neg h]

end Sys2Proof.Machine
end

section
/-! SUPPORT. CHECK and DECODE (43_checksum_decode.md): the sum of the payload as a number, the raw values of
Variant B, the order of finite patterns, and the range check on whole numbers (R180, R184, R185, R187, R188). -/

namespace Sys2Proof.Machine

/-! ### The checksum -/

theorem toNat_checksum (f : BitVec 40) :
    (checksum f).toNat = ((frameByte f 0).toNat + (frameByte f 1).toNat + (frameByte f 2).toNat +
      (frameByte f 3).toNat) % 256 := by
  simp [checksum, BitVec.toNat_add]

/-! ### Variant B's raw values -/

/-- Two bytes, the first in the upper half, are the number `256 * first + second`. -/
theorem toNat_bytePair (hi lo : Byte) :
    ((hi.setWidth 16 <<< 8) ||| lo.setWidth 16).toNat = hi.toNat * 256 + lo.toNat := by
  have hlo : lo.toNat < 2 ^ 8 := lo.isLt
  have hhi : hi.toNat <<< 8 < 2 ^ 16 := by omega
  rw [BitVec.toNat_or, BitVec.toNat_shiftLeft, BitVec.toNat_setWidth, BitVec.toNat_setWidth,
    Nat.mod_eq_of_lt (by omega), Nat.mod_eq_of_lt (by omega), Nat.mod_eq_of_lt (by omega),
    ← Nat.shiftLeft_add_eq_or_of_lt hlo, Nat.shiftLeft_eq]

theorem toNat_rawHumidity (b0 b1 : Byte) : (rawHumidity b0 b1).toNat = b0.toNat * 256 + b1.toNat :=
  toNat_bytePair b0 b1

theorem toNat_rawMagnitude (b2 b3 : Byte) :
    (rawMagnitude b2 b3).toNat = b2.toNat % 128 * 256 + b3.toNat := by
  have hmask : (b2 &&& 0x7F#8).toNat = b2.toNat % 128 := Nat.and_two_pow_sub_one_eq_mod b2.toNat 7
  rw [rawMagnitude, toNat_bytePair, hmask]

/-! ### Tenths -/

theorem tenths_finite (n : BitVec 16) : (tenths n).toNat < 0x7F800000 :=
  (tenthsAreRoundedToNearestEven n 0 (by decide)).1

theorem extractLsb'_f32Neg (x : Word) : (f32Neg x).extractLsb' 0 31 = x.extractLsb' 0 31 := by
  rw [f32Neg, BitVec.extractLsb'_xor]
  exact BitVec.xor_zero

theorem getLsbD_31_f32Neg (x : Word) : (f32Neg x).getLsbD 31 = !x.getLsbD 31 := by
  rw [f32Neg, BitVec.getLsbD_xor]
  exact Bool.xor_true _

/-! ### The order of finite patterns -/

/-- The patterns of finite nonnegative values are ordered as their values are. -/
theorem f32Units_lt_of_toNat_lt {x y : Word} (hx : x.toNat < 0x7F800000) (hy : y.toNat < 0x7F800000)
    (h : x.toNat < y.toNat) : f32Units x < f32Units y := by
  obtain ⟨k, q, hxq, hq, hnorm, hux⟩ := exists_f32_form hx
  obtain ⟨k', q', hyq, hq', hnorm', huy⟩ := exists_f32_form hy
  rw [hux, huy]
  obtain hlt | rfl | hgt := lt_trichotomy k k'
  · exact significand_lt_of_binade_lt hlt hq (by omega)
  · exact Nat.mul_lt_mul_of_pos_right (by omega) (by positivity)
  · omega

theorem f32IsNaN_of_finite {x : Word} (hx : x.toNat < 0x7F800000) : f32IsNaN x = false :=
  decide_eq_false (by omega)

theorem f32Key_of_finite {x : Word} (hx : x.toNat < 0x7F800000) : f32Key x = x.toNat := by
  rw [f32Key, getLsbD_31_of_finite hx, if_neg Bool.false_ne_true, Nat.mod_eq_of_lt (by omega)]

theorem f32Le_finite {x y : Word} (hx : x.toNat < 0x7F800000) (hy : y.toNat < 0x7F800000) :
    f32Le x y = decide (f32Units x ≤ f32Units y) := by
  have horder : x.toNat ≤ y.toNat ↔ f32Units x ≤ f32Units y := by
    obtain hlt | heq | hgt := lt_trichotomy x.toNat y.toNat
    · exact iff_of_true hlt.le (f32Units_lt_of_toNat_lt hx hy hlt).le
    · rw [BitVec.eq_of_toNat_eq heq]
      exact iff_of_true le_rfl le_rfl
    · exact iff_of_false hgt.not_ge (f32Units_lt_of_toNat_lt hy hx hgt).not_ge
  simp [f32Le, f32IsNaN_of_finite, f32Key_of_finite, hx, hy, horder]

/-! ### The range check -/

theorem f32Units_hundred : f32Units f32Hundred = 100 * 2 ^ 149 := rfl

/-- The pattern after the one of 100.0. -/
def f32AboveHundred : Word := 0x42C80001#32

theorem f32Units_aboveHundred : f32Units f32AboveHundred = 100 * 2 ^ 149 + 2 ^ 132 := rfl

/-- `n` tenths are nearest to `tenths n`: up to 1000 that is no farther than 100.0, and above it is no farther
than the pattern after 100.0, which lies below (R188). -/
theorem f32Units_tenths_le_hundred_iff (n : BitVec 16) :
    f32Units (tenths n) ≤ 100 * 2 ^ 149 ↔ n.toNat ≤ 1000 := by
  have hundred := (tenthsAreRoundedToNearestEven n f32Hundred (by decide)).2.1
  have above := (tenthsAreRoundedToNearestEven n f32AboveHundred (by decide)).2.1
  rw [tenthsError, tenthsError, f32Units_hundred] at hundred
  rw [tenthsError, tenthsError, f32Units_aboveHundred] at above
  omega

theorem decodeFrame_variantA (f : BitVec 40) :
    decodeFrame 0 f = decodeA (frameByte f 0) (frameByte f 1) (frameByte f 2) (frameByte f 3) := rfl

theorem decodeFrame_variantB (f : BitVec 40) :
    decodeFrame 1 f = decodeB (frameByte f 0) (frameByte f 1) (frameByte f 2) (frameByte f 3) := rfl

/-- Neither decoder gives a negative humidity or a NaN (R188). -/
theorem decodeFrame_humidity_finite (lvar : BitVec 1) (f : BitVec 40) :
    (decodeFrame lvar f).1.toNat < 0x7F800000 := by
  obtain rfl | rfl := bit_cases lvar
  · exact (f32Units_f32OfNat (by omega)).2
  · exact tenths_finite _

/-- 100.0 as a bound on the units of the decoded humidity is R188's bound on the bytes. -/
theorem decodeFrame_humidity_le_hundred_iff (lvar : BitVec 1) (f : BitVec 40) :
    f32Units (decodeFrame lvar f).1 ≤ 100 * 2 ^ 149 ↔
      if lvar = 0 then (frameByte f 0).toNat ≤ 100
      else (frameByte f 0).toNat * 256 + (frameByte f 1).toNat ≤ 1000 := by
  obtain rfl | rfl := bit_cases lvar
  · rw [decodeFrame_variantA, decodeA, (f32Units_f32OfNat (by omega)).1, if_pos rfl]
    exact Nat.mul_le_mul_right_iff (by positivity)
  · rw [decodeFrame_variantB, decodeB, f32Units_tenths_le_hundred_iff, toNat_rawHumidity, if_neg (by decide)]

/-- Settles O35: the sum of four bytes is the sum of their numbers modulo 256, and CHECK does what its two
laws say. -/
theorem checkComparesTheSumModulo256 : Obligations.CheckComparesTheSumModulo256 :=
  fun s => ⟨checksum s.frame, toNat_checksum s.frame, fun h => congrArg Host.Outcome.next (checkFrame_pass h),
    fun h => congrArg Host.Outcome.next (checkFrame_fail h)⟩

/-- Settles O36, by the two laws of DECODE. -/
theorem decodePhaseSucceedsOrRejects : Obligations.DecodePhaseSucceedsOrRejects :=
  fun _ => ⟨fun h => congrArg Host.Outcome.next (decodeStep_inRange h),
    fun h => congrArg Host.Outcome.next (decodeStep_outOfRange h)⟩

/-- Settles O38, by the raw values as numbers; the sign is the one bit that negation changes. -/
theorem variantBDecodesTenthsSignMagnitude : Obligations.VariantBDecodesTenthsSignMagnitude := by
  intro b0 b1 b2 b3
  have hsign := getLsbD_31_of_finite (tenths_finite (rawMagnitude b2 b3))
  rw [← toNat_rawHumidity, ← toNat_rawMagnitude]
  refine ⟨rfl, hsign, ?_⟩
  cases hneg : b2.getLsbD 7 with
  | false =>
    have ht : (decodeB b0 b1 b2 b3).2 = tenths (rawMagnitude b2 b3) := if_neg (ne_true_of_eq_false hneg)
    exact ht ▸ ⟨rfl, hsign⟩
  | true =>
    have ht : (decodeB b0 b1 b2 b3).2 = f32Neg (tenths (rawMagnitude b2 b3)) := if_pos hneg
    exact ht ▸ ⟨extractLsb'_f32Neg _, by rw [getLsbD_31_f32Neg, hsign]; rfl⟩

/-- Settles O40: the decoded humidity is finite and nonnegative, so both comparisons are of units. -/
theorem rangeCheckHasItsIntegerForm : Obligations.RangeCheckHasItsIntegerForm := by
  intro lvar f
  have hfin := decodeFrame_humidity_finite lvar f
  have hlower : f32Le 0#32 (decodeFrame lvar f).1 = true := by
    rw [f32Le_finite (by decide) hfin]
    exact decide_eq_true (Nat.zero_le _)
  refine ⟨hlower, ?_⟩
  rw [humidityInRange, hlower, Bool.true_and, f32Le_finite hfin (by decide), decide_eq_false_iff_not,
    f32Units_hundred, decodeFrame_humidity_le_hundred_iff]
  split <;> exact Nat.not_le

end Sys2Proof.Machine
end

section
/-! SUPPORT. A whole read whose polls succeed, stage by stage: the wake-up and the presence handshake, the forty
pulses, CHECK and DECODE (R143 to R148, R160, R180, R187, R192, R249). -/

namespace Sys2Proof.Machine

/-! ### The states between the stages -/

/-- The registers at the end of the wake-up hold (R143, R144). -/
def lineHeld (s : State) : State := { s with lineCmd := .low, dcnt := 0, phase := phaseCode .wakeRelease }

/-- The registers once the line was released and has settled (R145, R146). -/
def lineReleased (s : State) : State :=
  { s with lineCmd := .high, dcnt := 0, ecnt := 0, phase := phaseCode .presHigh }

/-- The registers once the sensor's presence was seen (R147, R148). -/
def presenceSeen (s : State) : State := { s with ecnt := 0, phase := phaseCode .bitRise }

/-- The registers at the start of the bit-sampling loop (R160). -/
def handshakeDone (s : State) : State :=
  { s with lineCmd := .high, dcnt := 0, ecnt := 0, phase := phaseCode .bitRise }

/-- The registers once all 40 bits are in (R166). -/
def frameReceived (f : BitVec 40) (s : State) : State :=
  { s with frame := f, bitcnt := 40, phase := phaseCode .check }

section WholeRead

variable {s : State} (hok : s.params.ok = true) (hturns : s.turns = []) (hw : NoWait s)
include hok hturns hw

theorem step_eq_exec_phaseInstr {p : Phase} (hp : s.at p) : step s = exec (phaseInstr p) s := by
  rw [step_phase hok (.inl hturns) hw.1 (hp ▸ decodePhase_phaseCode p), afterTurn_nil hturns]

/-! ### The wake-up and the handshake -/

/-- `S`: a set transaction that succeeds takes one step (R143, R145). -/
theorem runFor_set {p : Phase} {op : PinOp} {restL : List PinReply} (hop : phasePinOp p = some op)
    (hp : s.at p) (hline : s.line = LineTok.set.replies ++ restL) :
    runFor 1 s = .next (phaseDone p (withInputs restL 1 s.ticks 0 s)) := by
  obtain ⟨hport, ha⟩ := hw
  have hline' : s.line = .ok true :: restL := hline
  have hstep : step s = .next (phaseDone p (answered s)) := by
    rw [step_eq_exec_phaseInstr hok hturns ⟨hport, ha⟩ hp, exec_issuingPhase hop hp ha,
      pinTx_ok _ _ (nextReply_cons hline')]
    exact congrArg Host.Outcome.next ((phaseAnswered_cases hop true hp _).resolve_right (by simp))
  rw [runFor_succ hstep]
  refine congrArg (fun u => Host.Outcome.next (phaseDone p u)) ?_
  simp [answered, withInputs, hline', hport]

/-- A delay phase, as its register was loaded, takes as many steps as ticks (R144, R146). -/
theorem runFor_loadedDelay {p : Phase} {n : Nat} {rest : List Bool} (hop : phasePinOp p = none)
    (ha : advances p = true) (hn : 1 ≤ n ∧ n ≤ 65535) (hp : s.at p) (hd : s.dcnt = BitVec.ofNat 16 n)
    (hticks : s.ticks = List.replicate n true ++ rest) :
    runFor n s = .next (phaseDone p { withInputs s.line 0 rest n s with dcnt := 0 }) := by
  obtain ⟨n, rfl⟩ := Nat.exists_eq_add_of_le' hn.1
  have hload : s.dcnt.toNat = n + 1 := by rw [hd, BitVec.toNat_ofNat, Nat.mod_eq_of_lt (by omega)]
  exact runFor_delay hop ha hok hturns hw.1 hp hload hticks

/-- WAKE_LOW and WAKE_HOLD (R143, R144). -/
theorem runFor_wakeLow {restL : List PinReply} {restT : List Bool} (hp : s.at .wakeLow)
    (hline : s.line = LineTok.set.replies ++ restL)
    (hticks : s.ticks = List.replicate s.params.tWakeLow true ++ restT) :
    runFor (1 + s.params.tWakeLow) s = .next
      (lineHeld (withInputs restL 1 restT s.params.tWakeLow s)) := by
  rw [runFor_add (runFor_set hok hturns hw (op := .setLow) rfl hp hline)]
  exact runFor_loadedDelay (p := .wakeHold) (s := phaseDone .wakeLow (withInputs _ 1 _ 0 s)) hok hturns hw
    rfl rfl (delays_legal hok).1 rfl rfl hticks

/-- WAKE_RELEASE and WAKE_SETTLE (R145, R146). -/
theorem runFor_wakeRelease {restL : List PinReply} {restT : List Bool} (hp : s.at .wakeRelease)
    (hline : s.line = LineTok.set.replies ++ restL)
    (hticks : s.ticks = List.replicate s.params.tWakeRel true ++ restT) :
    runFor (1 + s.params.tWakeRel) s = .next
      (lineReleased (withInputs restL 1 restT s.params.tWakeRel s)) := by
  rw [runFor_add (runFor_set hok hturns hw (op := .setHigh) rfl hp hline)]
  exact runFor_loadedDelay (p := .wakeSettle) (s := phaseDone .wakeRelease (withInputs _ 1 _ 0 s)) hok hturns hw
    rfl rfl (delays_legal hok).2 rfl rfl hticks

/-- One presence poll: its count is discarded (R147, R148). -/
theorem runFor_presence {p : Phase} {k : Nat} {restL : List PinReply} {restT : List Bool}
    (hpres : p = .presHigh ∨ p = .presLow) (hp : s.at p) (he : s.ecnt = 0)
    (hk : k < phaseBudget s.params p)
    (hline : s.line = (LineTok.poll k).replies ++ restL) (hticks : s.ticks = List.replicate k true ++ restT) :
    runFor (k + 1) s = .next (pollDone p (withInputs restL (k + 1) restT k s)) := by
  have hpoll : polling s := (polling_iff hp).mpr (hpres.imp_right .inl)
  have hlt : s.ecnt.toNat + k < pollBudget s := by simpa [he, pollBudget_eq hp] using hk
  rw [runFor_poll hok hturns hp hpoll hw hlt hline hticks]
  obtain rfl | rfl := hpres <;> rfl

/-- PRES_HIGH and PRES_LOW. -/
theorem runFor_presences {a b : Nat} {restL : List PinReply} {restT : List Bool} (hp : s.at .presHigh)
    (he : s.ecnt = 0) (ha : a < s.params.samples s.params.tPresHigh)
    (hb : b < s.params.samples s.params.tPresLow)
    (hline : s.line = (LineTok.poll a).replies ++ ((LineTok.poll b).replies ++ restL))
    (hticks : s.ticks = List.replicate a true ++ (List.replicate b true ++ restT)) :
    runFor ((a + 1) + (b + 1)) s = .next
      (presenceSeen (withInputs restL ((a + 1) + (b + 1)) restT (a + b) s)) := by
  rw [runFor_add (runFor_presence hok hturns hw (.inl rfl) hp he ha hline hticks),
    runFor_presence (p := .presLow) (s := pollDone .presHigh (withInputs _ (a + 1) _ a s)) hok hturns hw (.inr rfl)
      rfl rfl hb rfl rfl]
  simp only [pollDone, presLowDone, presHighDone, presenceSeen, withInputs, Nat.add_assoc]

/-- From WAKE_LOW to BIT_RISE: two sets, two delays and two presence polls (R249). -/
theorem runFor_handshake {a b : Nat} {restL : List PinReply} {restT : List Bool} (hp : s.at .wakeLow)
    (ha : a < s.params.samples s.params.tPresHigh) (hb : b < s.params.samples s.params.tPresLow)
    (hline : s.line = scriptReplies [.set, .set, .poll a, .poll b] ++ restL)
    (hticks : s.ticks =
      List.replicate (s.params.tWakeLow + s.params.tWakeRel + a + b) true ++ restT) :
    runFor (s.params.tWakeLow + s.params.tWakeRel + a + b + 4) s = .next
      (handshakeDone
        (withInputs restL (a + b + 4) restT (s.params.tWakeLow + s.params.tWakeRel + a + b) s)) := by
  have hsteps : s.params.tWakeLow + s.params.tWakeRel + a + b + 4 =
      (1 + s.params.tWakeLow) + ((1 + s.params.tWakeRel) + ((a + 1) + (b + 1))) := by omega
  have hline' : s.line = LineTok.set.replies ++ (LineTok.set.replies ++
      ((LineTok.poll a).replies ++ ((LineTok.poll b).replies ++ restL))) := by
    simpa [scriptReplies] using hline
  simp only [List.replicate_add, List.append_assoc] at hticks
  rw [hsteps, runFor_add (runFor_wakeLow hok hturns hw hp hline' hticks)]
  refine (runFor_add (runFor_wakeRelease
    (s := lineHeld (withInputs _ 1 (List.replicate s.params.tWakeRel true ++ _) s.params.tWakeLow s))
    hok hturns hw rfl rfl rfl) _).trans ?_
  refine (runFor_presences
    (s := lineReleased (withInputs _ 1 _ s.params.tWakeRel (lineHeld (withInputs _ 1 _ s.params.tWakeLow s))))
    hok hturns hw rfl rfl ha hb rfl rfl).trans ?_
  have hdraws : s.lineDraws + 1 + 1 + ((a + 1) + (b + 1)) = s.lineDraws + (a + b + 4) := by omega
  have hwaits : s.tickDraws + s.params.tWakeLow + s.params.tWakeRel + (a + b) =
      s.tickDraws + (s.params.tWakeLow + s.params.tWakeRel + a + b) := by omega
  simp only [lineHeld, lineReleased, presenceSeen, handshakeDone, withInputs, hdraws, hwaits]

/-- From WAKE_LOW to CHECK: the handshake and forty pulses (R165, R249). -/
theorem runFor_toCheck {a b : Nat} {pulses : List (Nat × Nat)} {restL : List PinReply} {restT : List Bool}
    (hp : s.at .wakeLow) (hbits : s.bitcnt = 0) (hframe : s.frame = 0)
    (ha : a < s.params.samples s.params.tPresHigh) (hb : b < s.params.samples s.params.tPresLow)
    (hlen : pulses.length = 40) (hfit : pulsesFit s.params pulses)
    (hline : s.line =
      scriptReplies ([.set, .set, .poll a, .poll b] ++ pulsesScript pulses) ++ restL)
    (hticks : s.ticks = List.replicate
      (s.params.tWakeLow + s.params.tWakeRel + a + b + pulsesTicks pulses) true ++ restT) :
    runFor (s.params.tWakeLow + s.params.tWakeRel + a + b + 4 + pulsesSteps pulses) s = .next
      (frameReceived (streamFrame (pulses.map fun q => pulseBit s.params q.2)) (handshakeDone
        (withInputs restL (a + b + 4 + pulsesSteps pulses) restT
          (s.params.tWakeLow + s.params.tWakeRel + a + b + pulsesTicks pulses) s))) := by
  rw [scriptReplies, List.flatMap_append, List.append_assoc] at hline
  rw [List.replicate_add, List.append_assoc] at hticks
  rw [runFor_add (runFor_handshake hok hturns hw hp ha hb hline hticks)]
  refine (fortyPulsesMakeTheFrame (handshakeDone (withInputs _ (a + b + 4) _ _ s)) pulses restL restT hok hturns
    hw.1 hw.2 rfl hbits hframe rfl hlen hfit rfl rfl).trans ?_
  simp only [frameReceived, handshakeDone, withInputs, Nat.add_assoc]
  rfl

/-! ### The end -/

/-- CHECK after a wrong checksum ends the read, and a turn in COMPLETE changes nothing (R180; log 14). -/
theorem runFor_mismatch (hp : s.at .check) (hsum : frameByte s.frame 4 ≠ checksum s.frame) :
    runFor 2 s = .next (raiseError .checksumMismatch (withCksum s)) := by
  have hcheck : step s = .next (raiseError .checksumMismatch (withCksum s)) :=
    (step_eq_exec_phaseInstr hok hturns hw hp).trans (congrArg Host.Outcome.next (checkFrame_fail hsum))
  rw [runFor_succ hcheck]
  exact runFor_succ
    (step_eq_exec_phaseInstr (s := raiseError .checksumMismatch (withCksum s)) (p := .complete) hok hturns hw rfl)

/-- CHECK after a right checksum, then DECODE (R180, R187). -/
theorem runFor_decode (hp : s.at .check) (hsum : frameByte s.frame 4 = checksum s.frame) :
    runFor 2 s = .next (decodeStep { withCksum s with phase := phaseCode .decode }) := by
  have hcheck : step s = .next { withCksum s with phase := phaseCode .decode } :=
    (step_eq_exec_phaseInstr hok hturns hw hp).trans (congrArg Host.Outcome.next (checkFrame_pass hsum))
  rw [runFor_succ hcheck]
  exact runFor_succ
    (step_eq_exec_phaseInstr (s := { withCksum s with phase := phaseCode .decode }) (p := .decode) hok hturns hw
      rfl)

/-- From CHECK, a read ends as its checksum and its humidity say (R192). -/
theorem runFor_check_ends (hp : s.at .check) (hbits : s.bitcnt = 40) (herr : s.err = 0) :
    let r := decodeFrame s.lvar s.frame
    ∃ t, runFor 2 s = .next t ∧ t.phase = 11 ∧ t.frame = s.frame ∧ t.bitcnt = 40 ∧
      (frameByte s.frame 4 = checksum s.frame → (t.valid = 1 ↔ humidityInRange r.1 = true) ∧
        (humidityInRange r.1 = true → t.err = 0 ∧ t.humidity = r.1 ∧ t.temperature = r.2) ∧
        (humidityInRange r.1 = false → t.err = 3)) ∧
      (frameByte s.frame 4 ≠ checksum s.frame → t.err = 2 ∧ t.valid = 0 ∧
        t.cksumReceived = frameByte s.frame 4 ∧ t.cksumCalc = checksum s.frame) := by
  by_cases hsum : frameByte s.frame 4 = checksum s.frame
  · rw [runFor_decode hok hturns hw hp hsum]
    cases hh : humidityInRange (decodeFrame s.lvar s.frame).1 with
    | true =>
      exact ⟨_, congrArg _ (decodeStep_inRange hh), rfl, rfl, hbits,
        fun _ => ⟨iff_of_true rfl hh, fun _ => ⟨herr, rfl, rfl⟩, fun h => absurd h (ne_false_of_eq_true hh)⟩,
        absurd hsum⟩
    | false =>
      exact ⟨_, congrArg _ (decodeStep_outOfRange hh), rfl, rfl, hbits,
        fun _ => ⟨iff_of_false (by simp) (ne_true_of_eq_false hh),
          fun h => absurd h (ne_true_of_eq_false hh), fun _ => rfl⟩, absurd hsum⟩
  · rw [runFor_mismatch hok hturns hw hp hsum]
    exact ⟨_, rfl, rfl, rfl, hbits, fun heq => absurd heq hsum, fun _ => ⟨rfl, rfl, rfl, rfl⟩⟩

end WholeRead

/-- Settles O56: the run to CHECK, then how a read ends from there. -/
theorem readsEndAsTheFrameSays : Obligations.ReadsEndAsTheFrameSays := by
  intro s a b pulses restL restT _ _ _ hok hturns hport hwait hp hbits hframe _ herr ha hb hlen hfit hline hticks
  have hw : NoWait s := ⟨hport, hwait⟩
  rw [runFor_add (runFor_toCheck hok hturns hw hp hbits hframe ha hb hlen hfit hline hticks)]
  refine runFor_check_ends ?_ ?_ ?_ ?_ ?_ ?_
  exacts [hok, hturns, hw, rfl, rfl, herr]

end Sys2Proof.Machine
end

section
/-! SUPPORT. Errors: what `raise` records, which causes a step can raise from, and why a port that never
answers raises none (R210 to R217, R250). -/

namespace Sys2Proof.Machine

section Errors

variable {s : State}

/-! ### Phases that issue a transaction -/

theorem phaseOp_eq_pinCode {p : Phase} {op : PinOp} (hp : s.at p) (hop : phasePinOp p = some op) :
    phaseOp s.phase = pinCode op := by
  rw [hp, phaseOp_phaseCode, hop]
  rfl

/-- The phases in which a transaction can return `Err` (R215). -/
theorem issuingPhase_mem {p : Phase} {op : PinOp} (hop : phasePinOp p = some op) :
    (phaseCode p).toNat ∈ [1, 3, 5, 6, 7, 8] := by
  cases p <;> cases hop <;> decide

/-! ### A port that does not answer -/

/-- A turn without an answer leaves the transaction on the port, issued now or before (R39, R250). -/
theorem Sound.step_silent {rest : List PinReply} (h : Sound s) (hturns : s.turns = [])
    (ha : s.awaitTick = false) (hop : phaseOp s.phase ≠ 0) (hline : s.line = .silent :: rest) :
    step s = .next { s with line := rest, lineDraws := s.lineDraws + 1, port := phaseOp s.phase } := by
  obtain ⟨p, hp⟩ := h.phase_eq
  obtain ⟨op, hop⟩ := phasePinOp_of_phaseOp hp hop
  rw [h.step_issuingPhase hturns hp hop ha, pinTx_silent _ _ (nextReply_cons hline),
    phaseOp_eq_pinCode hp hop]
  simp [takeReply, hline]

theorem Sound.runFor_silent {n : Nat} {rest : List PinReply} (h : Sound s) (hturns : s.turns = [])
    (ha : s.awaitTick = false) (hop : phaseOp s.phase ≠ 0)
    (hline : s.line = List.replicate (n + 1) .silent ++ rest) :
    runFor (n + 1) s =
      .next { s with line := rest, lineDraws := s.lineDraws + (n + 1), port := phaseOp s.phase } := by
  induction n generalizing s with
  | zero => exact runFor_succ (h.step_silent hturns ha hop hline)
  | succ n ih =>
    have hwait := h.step_silent hturns ha hop hline
    have hkept := everyStepKeepsTheInvariantsOfR47 _ _ h hwait
    rw [runFor_succ hwait, ih hkept hturns ha hop rfl]
    simp only [Nat.add_assoc, Nat.add_comm 1]

/-! ### Errors by their cause -/

theorem raiseError_pinError (p : Word) (op : PinOp) (s : State) :
    raiseError (.pinError p op) s = pinErrored (pinCode op) p s := rfl

end Errors

/-- Settles O33, by induction on the number of turns without an answer. -/
theorem anUnansweredPortHangsTheBlock : Obligations.AnUnansweredPortHangsTheBlock := by
  intro s n rest h hturns ha hop hn hline
  obtain ⟨m, rfl⟩ := Nat.exists_eq_add_of_le' hn
  exact h.runFor_silent hturns ha hop hline

/-- Settles O41, kind by kind and op by op. -/
theorem raiseRecordsTheErrorAndNothingElse : Obligations.RaiseRecordsTheErrorAndNothingElse :=
  fun s => ⟨rfl, rfl, rfl, rfl, fun p =>
    ⟨raiseError_pinError p .setLow s, raiseError_pinError p .setHigh s, raiseError_pinError p .isHigh s,
      raiseError_pinError p .isLow s⟩⟩

/-- Settles O42, by the outcomes of a step: four of them raise, the others leave ERR or clear it. -/
theorem errorsAriseOnlyAsListed : Obligations.ErrorsAriseOnlyAsListed := by
  intro s t h hs herr hne
  cases h.stepEffect hs with
  | stay | config | checkPass | decodePass => exact absurd herr hne
  | start | reset => exact absurd rfl hne
  | advance _ _ _ w => exact absurd ((phaseDone_err _ (withWaits s w)).trans herr) hne
  | exhaust hc hpoll hn =>
    refine ⟨hc, raiseError_phase .., ?_⟩
    rw [raiseError_pollError]
    by_cases hpres : s.phase = 5 ∨ s.phase = 6
    · rw [if_pos hpres]
      exact .inl ⟨rfl, hpres, hn⟩
    · rw [if_neg hpres]
      have hloop : s.phase = 7 ∨ s.phase = 8 := (or_assoc.mpr hpoll).resolve_left hpres
      exact .inr (.inr (.inr (.inl ⟨rfl, hloop, hn, rfl⟩)))
  | pinError hc hp hop hr =>
    exact ⟨hc, raiseError_phase .., .inr (.inr (.inr (.inr
      ⟨raiseError_err .., hp ▸ issuingPhase_mem hop, (phaseOp_eq_pinCode hp hop).symm, _, hr, rfl⟩)))⟩
  | checkFail hc hp hsum => exact ⟨hc, rfl, .inr (.inl ⟨rfl, hp, hsum, rfl, rfl⟩)⟩
  | decodeFail hc hp hh => exact ⟨hc, rfl, .inr (.inr (.inl ⟨rfl, hp, hh⟩))⟩

end Sys2Proof.Machine
end

section
/-! SUPPORT. The steps that a read still has, split into those of the present phase and those of the phases
after it; why every answered step leaves fewer of them; and from that, that an answered read ends (R249,
R250). -/

namespace Sys2Proof.Machine

section Termination

variable {s t u : State}

/-! ### The steps left, phase by phase -/

/-- The steps that phase `p` itself still has, at most (R140, R141, R144, R146). -/
def stepsIn (s : State) : Phase → Nat
  | .idle | .complete => 0
  | .wakeLow | .wakeRelease | .check | .decode => 1
  | .wakeHold | .wakeSettle => s.dcnt.toNat
  | p => phaseBudget s.params p - s.ecnt.toNat

/-- The steps of the phases after `p`, at most, when the loop has stored `bits` bits: the next phase's delay
or budget, then the phases after that one (R22, R250). -/
def stepsAfter (q : Params) (bits : Nat) : Phase → Nat
  | .wakeLow =>
    q.tWakeLow + (1 + (q.tWakeRel + (q.samples q.tPresHigh + (q.samples q.tPresLow + bitSteps q 40))))
  | .wakeHold => 1 + (q.tWakeRel + (q.samples q.tPresHigh + (q.samples q.tPresLow + bitSteps q 40)))
  | .wakeRelease => q.tWakeRel + (q.samples q.tPresHigh + (q.samples q.tPresLow + bitSteps q 40))
  | .wakeSettle => q.samples q.tPresHigh + (q.samples q.tPresLow + bitSteps q 40)
  | .presHigh => q.samples q.tPresLow + bitSteps q 40
  | .presLow => bitSteps q 40
  | .bitRise => q.samples q.tHighCap + bitSteps q (39 - bits)
  | .bitHigh => bitSteps q (39 - bits)
  | .check => 1
  | .idle | .decode | .complete => 0

theorem stepsLeft_eq {p : Phase} (hp : s.at p) :
    stepsLeft s = stepsIn s p + stepsAfter s.params s.bitcnt.toNat p := by
  unfold stepsLeft
  rw [pollBudget_eq hp, hp]
  cases p <;> simp [phaseCode, stepsIn, stepsAfter, phaseBudget, readBound, bitSteps] <;> omega

theorem bitSteps_succ (q : Params) (bits : Nat) :
    bitSteps q (bits + 1) = q.samples q.tRise + (q.samples q.tHighCap + bitSteps q bits) := by
  unfold bitSteps
  rw [Nat.succ_mul]
  omega

/-- The loop goes on with the rise of the next bit, or ends after the last one (R162). -/
theorem stepsLeft_bitHighDone (hbits : u.bitcnt.toNat < 40) :
    stepsLeft (bitHighDone u) = bitSteps u.params (39 - u.bitcnt.toNat) := by
  have hsucc := toNat_bitcnt_succ hbits
  by_cases hlast : u.bitcnt + 1 = 40
  · have hat : (bitHighDone u).at .check := (bitHighDone_phase u).trans (if_pos hlast)
    have hfull : 39 - u.bitcnt.toNat = 0 := by
      rw [hlast] at hsucc
      exact Nat.sub_eq_zero_of_le (Nat.succ.inj hsucc).le
    rw [stepsLeft_eq hat, hfull, bitSteps, Nat.zero_mul]
    rfl
  · have hat : (bitHighDone u).at .bitRise := (bitHighDone_phase u).trans (if_neg hlast)
    have hmore : 39 - u.bitcnt.toNat = 39 - (u.bitcnt + 1).toNat + 1 := by
      have hlt := toNat_succ_lt hbits hlast
      omega
    rw [stepsLeft_eq hat, hmore, bitSteps_succ]
    rfl

/-- A phase that ends with success leaves the steps of the phases after it: the next phase starts with its
whole delay or budget (R37, R143 to R148, R161, R162). -/
theorem stepsLeft_phaseDone {p : Phase} (ha : advances p = true) (hbits : phaseBits p u.bitcnt)
    (hok : u.params.ok = true) :
    stepsLeft (phaseDone p u) = stepsAfter u.params u.bitcnt.toNat p := by
  have hload {n : Nat} (hn : n ≤ 65535) : (BitVec.ofNat 16 n).toNat = n := Nat.mod_eq_of_lt (by omega)
  obtain ⟨⟨-, hlow⟩, -, hrel⟩ := delays_legal hok
  cases p
  case idle | check | decode | complete => cases ha
  case bitHigh => exact stepsLeft_bitHighDone hbits
  all_goals rw [stepsLeft_eq (phaseDone_at ha)]
  case wakeLow => exact congrArg (· + _) (hload hlow)
  case wakeRelease => exact congrArg (· + _) (hload hrel)
  case wakeHold | wakeSettle | presHigh | bitRise => rfl
  case presLow =>
    have hzero : u.bitcnt = 0 := hbits
    change u.params.samples u.params.tRise + (_ + bitSteps u.params (39 - u.bitcnt.toNat)) = _
    rw [hzero]
    exact (bitSteps_succ u.params 39).symm

/-! ### Steps that bring the end nearer -/

/-- The inputs go on with those of `s`, at most one answer and at most one tick taken. -/
structure Draws (s t : State) : Prop where
  turns : t.turns = s.turns
  line : t.line = s.line ∨ t.line = s.line.tail
  ticks : t.ticks = s.ticks ∨ t.ticks = s.ticks.tail

/-- Fewer steps are left, for at most one answer and one tick (R250). -/
structure Nearer (s t : State) : Prop where
  steps : stepsLeft t < stepsLeft s
  draws : Draws s t

theorem Draws.phaseDone (h : Draws s u) (p : Phase) : Draws s (phaseDone p u) := by
  cases p <;> exact ⟨h.turns, h.line, h.ticks⟩

theorem Draws.raiseError (h : Draws s u) (e : ErrKind) : Draws s (raiseError e u) := by
  cases e <;> exact ⟨h.turns, h.line, h.ticks⟩

theorem phase_of_busy {p : Phase} (hb : busy s = true) (hp : s.at p) : p ≠ .idle ∧ p ≠ .complete := by
  have hends : ¬(s.at .idle ∨ s.at .complete) := by simp [← not_busy_iff, hb]
  exact ⟨fun he => hends (.inl (he ▸ hp)), fun he => hends (.inr (he ▸ hp))⟩

theorem stepsIn_of_polling {p : Phase} (hp : s.at p) (hpoll : polling s) :
    stepsIn s p = pollBudget s - s.ecnt.toNat := by
  rw [pollBudget_eq hp]
  obtain rfl | rfl | rfl | rfl := (polling_iff hp).mp hpoll <;> rfl

/-- A read that has not ended has a step to take in its present phase. -/
theorem stepsIn_pos {p : Phase} (hp : s.at p) (hb : busy s = true) (hw : WithinBudget s) :
    0 < stepsIn s p := by
  by_cases hpoll : polling s
  · rw [stepsIn_of_polling hp hpoll]
    exact Nat.sub_pos_of_lt (hw.poll hpoll)
  obtain ⟨hidle, hcomplete⟩ := phase_of_busy hb hp
  cases p
  case idle => exact absurd rfl hidle
  case complete => exact absurd rfl hcomplete
  case wakeLow | wakeRelease | check | decode => exact Nat.one_pos
  case wakeHold => exact (hw.hold hp).1
  case wakeSettle => exact (hw.settle hp).1
  all_goals exact absurd ((polling_iff hp).mpr (by simp)) hpoll

/-- A step within a phase that leaves fewer steps of that phase. -/
theorem nearer_stay {p : Phase} (hp : s.at p) (hparams : t.params = s.params) (hphase : t.phase = s.phase)
    (hbits : t.bitcnt = s.bitcnt) (hlt : stepsIn t p < stepsIn s p) (hd : Draws s t) : Nearer s t where
  steps := by
    rw [stepsLeft_eq hp, stepsLeft_eq (hphase.trans hp), hparams, hbits]
    exact Nat.add_lt_add_right hlt _
  draws := hd

/-- A failed sample that does not exhaust the budget: the grown count does not wrap (R37, R141). -/
theorem nearer_counted {p : Phase} (h : Sound s) (hw : WithinBudget s) (hp : s.at p) (hpoll : polling s)
    (hne : s.ecnt.toNat + 1 ≠ pollBudget s) (hparams : t.params = s.params) (hphase : t.phase = s.phase)
    (hbits : t.bitcnt = s.bitcnt) (hecnt : t.ecnt = s.ecnt + 1) (hd : Draws s t) : Nearer s t := by
  refine nearer_stay hp hparams hphase hbits ?_ hd
  have hpoll' : polling t := (polling_iff (hphase.trans hp)).mpr ((polling_iff hp).mp hpoll)
  have hbudget : pollBudget t = pollBudget s := by
    rw [pollBudget_eq hp, pollBudget_eq (hphase.trans hp), hparams]
  have hlt := hw.poll hpoll
  have hle := pollBudget_le h.paramsOk hpoll
  have hcount : t.ecnt.toNat = s.ecnt.toNat + 1 :=
    hecnt ▸ BitVec.toNat_add_of_lt (show s.ecnt.toNat + 1 < 2 ^ 16 by omega)
  rw [stepsIn_of_polling hp hpoll, stepsIn_of_polling (hphase.trans hp) hpoll', hbudget, hcount]
  omega

section Busy

variable {p : Phase} (h : Sound s) (hw : WithinBudget s) (hb : busy s = true) (hp : s.at p)

include hw hb hp

theorem stepsAfter_lt_stepsLeft : stepsAfter s.params s.bitcnt.toNat p < stepsLeft s := by
  rw [stepsLeft_eq hp]
  exact Nat.lt_add_of_pos_left (stepsIn_pos hp hb hw)

theorem nearer_of_complete (ht : t.at .complete) (hd : Draws s t) : Nearer s t where
  steps := by
    rw [stepsLeft_eq ht]
    exact Nat.zero_lt_of_lt (stepsAfter_lt_stepsLeft hw hb hp)
  draws := hd

theorem nearer_raiseError {e : ErrKind} (hd : Draws s u) : Nearer s (raiseError e u) :=
  nearer_of_complete hw hb hp (raiseError_phase u e) (hd.raiseError e)

include h

theorem nearer_phaseDone (ha : advances p = true) (hparams : u.params = s.params)
    (hbits : u.bitcnt = s.bitcnt) (hd : Draws s u) : Nearer s (phaseDone p u) where
  steps := by
    have hu := h.unended hp (ne_complete_of_advances ha)
    rw [stepsLeft_phaseDone ha (hbits ▸ hu.bits) (hparams ▸ h.paramsOk), hparams, hbits]
    exact stepsAfter_lt_stepsLeft hw hb hp
  draws := hd.phaseDone p

/-- A failed sample, taken in this step or before, is counted or ends the poll (R141). -/
theorem nearer_failedSample {e : ErrKind} {w : State} (hpoll : polling s) (ht : nextTick w = true)
    (hecnt : w.ecnt = s.ecnt) (hd : Draws s w) (hticks : w.ticks = s.ticks) :
    Nearer s (failedSample (pollBudget s) e (withWaits s w)) := by
  have hdraws : Draws s (takeTick (withWaits s w)) := ⟨hd.turns, hd.line, .inr (congrArg List.tail hticks)⟩
  obtain ⟨hf, -⟩ | ⟨-, -, hlast⟩ | ⟨-, hne, hmore⟩ := failedSample_cases (pollBudget s) e (withWaits s w)
  · exact absurd (hf.symm.trans ht) Bool.false_ne_true
  · rw [hlast]
    exact nearer_raiseError hw hb hp ⟨hdraws.turns, hdraws.line, hdraws.ticks⟩
  · rw [hmore]
    exact nearer_counted h hw hp hpoll (hecnt ▸ hne) rfl rfl rfl (congrArg (· + 1) hecnt)
      ⟨hdraws.turns, hdraws.line, hdraws.ticks⟩

/-- A tick of a delay is counted or ends the delay (R144, R146). -/
theorem nearer_delayStep (hop : phasePinOp p = none) (ha : advances p = true) (ht : nextTick s = true) :
    Nearer s (delayStep (phaseDone p) s) := by
  obtain ⟨hf, -⟩ | ⟨-, -, hlast⟩ | ⟨-, -, hmore⟩ := delayStep_cases (phaseDone p) s
  · exact absurd (hf.symm.trans ht) Bool.false_ne_true
  · rw [hlast]
    exact nearer_phaseDone h hw hb hp ha rfl rfl ⟨rfl, .inl rfl, .inr rfl⟩
  · rw [hmore]
    refine nearer_stay hp rfl rfl rfl ?_ ⟨rfl, .inl rfl, .inr rfl⟩
    have hpos := stepsIn_pos hp hb hw
    have hpred (hpos : 0 < s.dcnt.toNat) : (s.dcnt - 1).toNat < s.dcnt.toNat := by
      have hone : 1 ≤ s.dcnt := BitVec.le_def.mpr hpos
      rw [BitVec.toNat_sub_of_le hone]
      exact Nat.sub_one_lt_of_lt hpos
    cases p <;> cases hop <;> cases ha <;> exact hpred hpos

theorem nearer_issuingPhase {op : PinOp} (hop : phasePinOp p = some op) (hr : nextReply s ≠ .silent)
    (ht : nextTick s = true) (hs : exec (phaseInstr p) s = .next t) : Nearer s t := by
  cases ha : s.awaitTick with
  | true =>
    obtain ⟨hpoll, -⟩ := h.tickWaitInPoll ha
    rw [exec_poll hp hpoll, pollStep_waiting ha] at hs
    cases hs
    exact nearer_failedSample h hw hb hp (w := s) hpoll ht rfl ⟨rfl, .inl rfl, .inl rfl⟩ rfl
  | false =>
    have hdraws : Draws s (answered s) := ⟨rfl, .inr rfl, .inl rfl⟩
    rw [exec_issuingPhase hop hp ha] at hs
    injection hs with hs
    obtain ⟨b, -, hok⟩ | ⟨payload, -, herr⟩ | ⟨hsilent, -⟩ := pinTx_cases op (phaseAnswered s.params p) s
    · rw [← hs, hok]
      obtain hdone | ⟨-, hpoll, hfailed⟩ := phaseAnswered_cases hop b hp (answered s)
      · exact hdone ▸ nearer_phaseDone h hw hb hp (advances_of_phasePinOp hop) rfl rfl hdraws
      · exact hfailed ▸ nearer_failedSample h hw hb hp (w := answered s) hpoll ht rfl hdraws rfl
    · rw [← hs, herr]
      exact nearer_raiseError hw hb hp hdraws
    · exact absurd hsilent hr

omit h

theorem nearer_decodeStep : Nearer s (decodeStep s) := by
  cases hh : humidityInRange (decodeFrame s.lvar s.frame).1 with
  | true =>
    rw [decodeStep_inRange hh]
    exact nearer_of_complete hw hb hp rfl ⟨rfl, .inl rfl, .inl rfl⟩
  | false =>
    rw [decodeStep_outOfRange hh]
    exact nearer_raiseError hw hb hp ⟨rfl, .inl rfl, .inl rfl⟩

end Busy

theorem nearer_checkFrame (hw : WithinBudget s) (hb : busy s = true) (hp : s.at .check) :
    Nearer s (checkFrame s) := by
  by_cases hsum : frameByte s.frame 4 = checksum s.frame
  · rw [checkFrame_pass hsum]
    exact
      { steps := by
          rw [stepsLeft_eq hp, stepsLeft_eq (p := .decode) rfl]
          exact Nat.one_lt_two
        draws := ⟨rfl, .inl rfl, .inl rfl⟩ }
  · rw [checkFrame_fail hsum]
    exact nearer_raiseError hw hb hp ⟨rfl, .inl rfl, .inl rfl⟩

theorem nearer_phaseInstr {p : Phase} (h : Sound s) (hw : WithinBudget s) (hb : busy s = true) (hp : s.at p)
    (hr : nextReply s ≠ .silent) (ht : nextTick s = true) (hs : exec (phaseInstr p) s = .next t) :
    Nearer s t := by
  cases hop : phasePinOp p with
  | some op => exact nearer_issuingPhase h hw hb hp hop hr ht hs
  | none =>
    obtain ⟨hidle, hcomplete⟩ := phase_of_busy hb hp
    cases p
    case idle => exact absurd rfl hidle
    case complete => exact absurd rfl hcomplete
    case wakeHold | wakeSettle =>
      cases hs
      exact nearer_delayStep h hw hb hp rfl rfl ht
    case check =>
      cases hs
      exact nearer_checkFrame hw hb hp
    case decode =>
      cases hs
      exact nearer_decodeStep hw hb hp
    all_goals cases hop

/-- What every answered controller step of a read does (R250). -/
theorem Sound.nearer_step (h : Sound s) (hw : WithinBudget s) (hb : busy s = true) (hc : controllerTurn s)
    (hr : nextReply s ≠ .silent) (ht : nextTick s = true) (hs : step s = .next t) :
    Nearer (afterTurn s) t := by
  have h' : Sound (afterTurn s) := h.of_soundFields rfl
  have hw' : WithinBudget (afterTurn s) := hw.of_fields rfl
  obtain ⟨p, hp⟩ := h.phase_eq
  rw [h.step_controller hc hp] at hs
  exact nearer_phaseInstr h' hw' hb hp hr ht hs

/-! ### Reads that are answered to their end -/

theorem Answered.prompt {n : Nat} (h : Answered n s) (hn : 0 < n) :
    nextReply s ≠ .silent ∧ nextTick s = true := by
  obtain ⟨hline, hticks, hreplies, hcome⟩ := h
  obtain ⟨r, rs, hr⟩ := List.exists_cons_of_length_pos (hn.trans_le hline)
  obtain ⟨b, bs, hb⟩ := List.exists_cons_of_length_pos (hn.trans_le hticks)
  exact ⟨nextReply_cons hr ▸ hreplies r (hr ▸ List.mem_cons_self),
    nextTick_cons hb ▸ hcome b (hb ▸ List.mem_cons_self)⟩

theorem length_and_subset_of_draw {α : Type} {m n : Nat} {xs ys : List α} (e : ys = xs ∨ ys = xs.tail)
    (hn : n ≤ xs.length) (hlt : m < n) : m ≤ ys.length ∧ ys ⊆ xs := by
  obtain rfl | rfl := e
  · exact ⟨by omega, List.Subset.refl _⟩
  · exact ⟨by rw [List.length_tail]; omega, List.tail_subset xs⟩

/-- What answers `n` steps answers fewer after a step that takes at most one of each. -/
theorem Answered.of_draws {m n : Nat} (h : Answered n s) (hd : Draws s t) (hlt : m < n) : Answered m t := by
  obtain ⟨hline, hticks, hreplies, hcome⟩ := h
  obtain ⟨hline, hreply⟩ := length_and_subset_of_draw hd.line hline hlt
  obtain ⟨hticks, htick⟩ := length_and_subset_of_draw hd.ticks hticks hlt
  exact ⟨hline, hticks, fun r hr => hreplies r (hreply hr), fun b hb => hcome b (htick hb)⟩

/-- A read leads to COMPLETE, never back to IDLE (R22). -/
theorem Sound.complete_of_step (h : Sound s) (hb : busy s = true) (hc : controllerTurn s)
    (hs : step s = .next t) (hend : busy t = false) : t.phase = 11 := by
  refine (not_busy_iff.mp hend).resolve_left fun hidle => ?_
  have hidle : t.phase = 0 := hidle
  obtain hsame | ⟨⟨ts, hts⟩, -⟩ | ⟨⟨w, ts, d, hts, -⟩, -⟩ | ⟨-, hmoves⟩ :=
    phasesFollowTheSuccessorTable s t h hs
  · have hbusy : busy t = busy s := by rw [busy, hsame, busy]
    exact absurd (hbusy.trans hb) (by simp [hend])
  · exact not_controllerTurn_of_reset hts hc
  · exact not_controllerTurn_of_host hts hc
  · simp [hidle] at hmoves

end Termination

/-- Settles O53: a step takes one of the present phase's steps or goes on to the phases after it, and START
is at the first phase. -/
theorem stepsLeftFallWithEveryAnsweredStep : Obligations.StepsLeftFallWithEveryAnsweredStep := by
  refine ⟨fun s t h hw hb hc hr ht hs => (h.nearer_step hw hb hc hr ht hs).steps, fun s hb => ?_, by decide⟩
  rw [startRead_eq_started hb]
  rfl

/-- Settles O54, by induction on the steps left. -/
theorem everyAnsweredReadEnds : Obligations.EveryAnsweredReadEnds := by
  intro s
  induction hn : stepsLeft s using Nat.strong_induction_on generalizing s with
  | _ n ih =>
    intro h hw hb hturns hans
    obtain ⟨p, hp⟩ := h.phase_eq
    obtain ⟨hr, ht⟩ := hans.prompt (hn ▸ Nat.zero_lt_of_lt (stepsAfter_lt_stepsLeft hw hb hp))
    obtain ⟨t, hs⟩ := soundStatesNeverStop s h
    have hnear := afterTurn_nil hturns ▸ h.nearer_step hw hb (.inl hturns) hr ht hs
    have hlt : stepsLeft t < n := hn ▸ hnear.steps
    cases hend : busy t with
    | false => exact ⟨1, t, by omega, runFor_succ hs, h.complete_of_step hb (.inl hturns) hs hend⟩
    | true =>
      obtain ⟨k, u, hk, hu, hcomplete⟩ := ih _ hlt t rfl (everyStepKeepsTheInvariantsOfR47 s t h hs)
        (countersStayWithinBudget s t h hw hs) hend (hnear.draws.turns.trans hturns)
        (hans.of_draws hnear.draws hlt)
      exact ⟨k + 1, u, by omega, (runFor_succ hs).trans hu, hcomplete⟩

end Sys2Proof.Machine
end
